-- ==== Sys2Proof/Word.lean ====
section
/-! DEFINITION. The plainest number types of the Crodena 624: a ring byte, a head number and a recipe slot number. -/

namespace Sys2Proof

/-- One byte of a ring frame (The Turret Ring, section 10.6). -/
abbrev Byte := BitVec 8

/-- A head number, 0 to 23 (scope, section 6.2). -/
abbrev HeadNo := Fin 24

/-- A recipe slot number, which is a product code, 0 to 15 (scope, section 6.2). -/
abbrev SlotNo := Fin 16

end Sys2Proof
end

