-- ==== Sys2Proof/Config.lean ====
section
/-! DEFINITION. The constants the spec fixes and the line-configuration defaults it loads at every reset.
Nothing here is an open value: the spec leaves no value of the machine open that a constant would have to stand for. -/

namespace Sys2Proof

/-- One gas valve class of the valve class table: its opening and closing lags in µs (R61). -/
structure ValveClass where
  lagOpen : Nat
  lagClose : Nat
  deriving DecidableEq, Repr

/-- One band of the flow table: its floor in kPa and its flow in 0.1 mg per ms (R122). -/
structure FlowBand where
  floor : Nat
  flow : Nat
  deriving DecidableEq, Repr

end Sys2Proof

namespace Sys2Proof.Config

/-- The serial kept for cans that arrive without a ticket (section 2.1). -/
abbrev untrackedSerial : Nat := 16777215

/-- The pitch time of a turret that counts as stopped, in µs (R14). -/
abbrev pitchSaturation : Nat := 4000000

/-- A counter at this value stays there (R134). -/
abbrev counterMax : Nat := 4294967295

/-- The length of the reset vent, 500 ms (R98), in µs. -/
abbrev resetVentTime : Nat := 500000

/-- The length of one store operation, 12 ms (R171, R172), in µs. -/
abbrev storeTime : Nat := 12000

/-- The valve class table after reset (R61). -/
def valveDefaults : Vector ValveClass 4 :=
  #v[⟨6000, 3500⟩, ⟨4000, 2500⟩, ⟨8000, 5000⟩, ⟨0, 0⟩]

/-- The flow table after reset (R122, section 7.4). -/
def flowDefaults : Vector FlowBand 8 :=
  #v[⟨0, 100⟩, ⟨700, 300⟩, ⟨800, 340⟩, ⟨900, 370⟩, ⟨1000, 400⟩, ⟨1100, 420⟩, ⟨1200, 440⟩, ⟨1300, 460⟩]

/-- The levels on the address pins in `State.reset`.
DESIGN CHOICE (log entry 4): the spec leaves the pins to the board. Unsafe. -/
def bootPins : BitVec 5 := 1

end Sys2Proof.Config
end

