-- ==== Sys2Proof/Syntax.lean ====
section
/-! DEFINITION. The commands of the part, one constructor of `Instr` for each row of spec/opcode_table.json, and the types
of their operands. Every command begins with `dt`, the time in µs since the command before it was taken
(DESIGN CHOICE, log entry 1). -/

namespace Sys2Proof

/-- One pair of values a crimp gauge delivers when it is read, raw, in 0.01 mm (section 6.6). -/
structure Gauge where
  depth : Int
  diameter : Int
  deriving DecidableEq, Repr

/-- The levels on the machine lines that the part reads, at its own asking, in the course of a crossing: the infeed
can-present input (R25) and the 24 crimp gauges (R112). Operands, because the table has no row for a change of them
(log entry 2). -/
structure Lines where
  sensorHigh : Bool
  gauges : Vector Gauge 24
  deriving DecidableEq, Repr

/-- One of the events that a single forward crossing can deliver (R11): its pitch mark, or the phase event of a head. -/
inductive Arrival where
  | pitchMark
  | phase (h : HeadNo)
  deriving DecidableEq, Repr

/-- The two causes a tracker HALT request can carry (R18). -/
inductive TrackerCause where
  | reverse
  | encoderSlip
  deriving DecidableEq, Repr

/-- The five targets of a MODE request (R145). -/
inductive ModeTarget where
  | run
  | drain
  | halt
  | resume
  | standby
  deriving DecidableEq, Repr

/-- The gas half of a recipe (section 3.2), as it is written. -/
structure GasHalf where
  d0 : Nat
  dMin : Nat
  dMax : Nat
  dTol : Nat
  f0 : Nat
  kh : Nat
  t0 : Int
  kt : Int
  tMax : Nat
  sealLevel : Nat
  sealTime : Nat
  overStep : Nat
  settleMin : Nat
  settleMax : Nat
  deriving DecidableEq, Repr

/-- The cam half of a recipe (section 3.3), as it is written. -/
structure CamHalf where
  sealAngle : Nat
  gasStart : Nat
  gasEnd : Nat
  crimp : Nat
  vent : Nat
  lift : Nat
  dwell : Nat
  depthMin : Nat
  depthMax : Nat
  diameterMin : Nat
  diameterMax : Nat
  force : Nat
  pulses : Nat
  ventPeriod : Nat
  ventOn : Nat
  ventClear : Nat
  deriving DecidableEq, Repr

/-- The five fields of a head entry as a HEAD-WRITE carries them, not yet checked (R96). -/
structure HeadFields where
  enabled : Nat
  valveClass : Nat
  bellOffset : Int
  depthOffset : Int
  diameterOffset : Int
  deriving DecidableEq, Repr

/-- The group and values of a CONFIG-WRITE (section 11.5), not yet checked. -/
inductive ConfigValue where
  | aDis (v : Nat)
  | faultLimit (v : Nat)
  | nq (v : Nat)
  | levelPair (v : Nat)
  | dipTolerance (v : Nat)
  | valves (v : Vector ValveClass 4)
  | flow (v : Vector FlowBand 8)
  deriving DecidableEq, Repr

/-- What the payload of a REQUEST frame spells by the layouts of R161, after checks 1 and 2 of R162. -/
inductive Request where
  /-- An empty payload (kind 0 echoed) or an undefined kind byte: check 1 of R162. -/
  | unknown (kind : Byte)
  /-- A defined kind with the wrong length, an undefined MODE target or an undefined CONFIG-WRITE group. -/
  | malformed (kind : Byte)
  | status
  | mode (target : ModeTarget)
  | recipeGas (product : Nat) (half : GasHalf)
  | recipeCam (product : Nat) (half : CamHalf)
  | recipeDrop (product : Nat)
  | recipeClear (product : Nat)
  | recipeRead (product source half : Nat)
  | headWrite (head : Nat) (resetCount : Bool) (fields : HeadFields)
  | headRead (head : Nat)
  | headStore (head : Nat)
  | protect (marks : BitVec 4)
  | latch (mask : BitVec 24)
  | snapshot (head : Nat)
  | counters (scope : Nat) (clear : Bool)
  | attention (clear : BitVec 11) (mask : Option (BitVec 11))
  | configWrite (value : ConfigValue)
  | configRead (group : Nat)
  | restart
  deriving DecidableEq, Repr

/-- An operand together with the levels on the five address pins at the moment the command is taken, which a RESTART reads
(R160). The table has no row for a change of the pins (log entry 4). -/
structure WithPins (α : Type) where
  operand : α
  pins : BitVec 5
  deriving DecidableEq, Repr

/-- The commands of the part, in the order of spec/opcode_table.json. `dt` is the time in µs since the command before it
was taken; `tag` is header byte 2 of a request (chapter 11). -/
inductive Instr where
  /-- Power-up or the reset line, with the levels on the address pins (R151, R160). -/
  | reset (dt : Nat) (pins : BitVec 5)
  /-- A forward encoder edge (R2). `order` says which of its events is taken first (R11, log entry 3). -/
  | forwardEdge (dt : Nat) (lines : Lines) (order : List Arrival)
  /-- A reverse encoder edge (R3). -/
  | reverseEdge (dt : Nat)
  /-- The encoder index mark (R4 to R8); the two orders are those of the crossings onto 6143 and onto 0 (R5). -/
  | indexMark (dt : Nat) (lines : Lines) (order6143 order0 : List Arrival)
  /-- The pitch timer reaches 4,000,000 µs (R14). -/
  | pitchTimerSaturation (dt : Nat)
  /-- A rising edge on the infeed sensor input (R24). -/
  | canPresentEdge (dt : Nat)
  /-- A bell-pressure sample of a head, raw, in kPa (R101). -/
  | bellPressureSample (dt : Nat) (h : HeadNo) (raw : Int)
  /-- A crimp-force sample of a head, in newtons (R109). -/
  | crimpForceSample (dt : Nat) (h : HeadNo) (newtons : Int)
  /-- A manifold sample, raw, in kPa (R116). -/
  | manifoldSample (dt : Nat) (raw : Int)
  /-- The over-pressure trip is taken at a head (R79). -/
  | overpressureTrip (dt : Nat) (h : HeadNo)
  /-- The seal-level report is taken at a head (R80). -/
  | sealLevelReport (dt : Nat) (h : HeadNo)
  /-- A head's command timer expires (R78). -/
  | commandTimerExpiry (dt : Nat) (h : HeadNo)
  /-- A head's seal-check timer expires (R80). -/
  | sealCheckTimerExpiry (dt : Nat) (h : HeadNo)
  /-- A head's dwell timer expires; `gauge` is what the head's crimp gauge delivers (R86, R112). -/
  | dwellTimerExpiry (dt : Nat) (h : HeadNo) (gauge : Gauge)
  /-- A head's vent pulse timer expires (R89). -/
  | ventPulseTimerExpiry (dt : Nat) (h : HeadNo)
  /-- A head's reset vent timer expires (R99). -/
  | resetVentTimerExpiry (dt : Nat) (h : HeadNo)
  /-- The dip timer expires (R119). -/
  | dipTimerExpiry (dt : Nat)
  /-- The LOW event is taken at a head (R82). -/
  | lowEvent (dt : Nat) (h : HeadNo)
  /-- HALT is taken at a head (R92). -/
  | headHalt (dt : Nat) (h : HeadNo)
  /-- A tracker HALT request is taken by mode control (R147). -/
  | trackerHaltRequest (dt : Nat) (cause : TrackerCause)
  /-- The store's operation timer expires (R173). -/
  | storeOperationTimerExpiry (dt : Nat)
  /-- A frame ends at ring-in; `bytes` are all its bytes, CRC included (R155). -/
  | ringInFrame (dt : Nat) (bytes : List Byte)
  /-- The infeed unit takes an infeed ticket: header byte 2 and the payload (R19). -/
  | infeedTicket (dt : Nat) (ticketFlags : Byte) (payload : List Byte)
  /-- The last byte of the frame being sent goes out at ring-out (R159). -/
  | transmitComplete (dt : Nat)
  /-- The management unit takes a request whose payload no other row names (R162, log entry 6). The pins are
  read if the payload spells a RESTART. -/
  | unknownRequest (dt : Nat) (tag : Byte) (payload : WithPins (List Byte))
  /-- STATUS (R163). -/
  | status (dt : Nat) (tag : Byte)
  /-- MODE with target RUN (R145, R146). -/
  | modeRun (dt : Nat) (tag : Byte)
  /-- MODE with target DRAIN (R145, R149). -/
  | modeDrain (dt : Nat) (tag : Byte)
  /-- MODE with target HALT (R145, R147). -/
  | modeHalt (dt : Nat) (tag : Byte)
  /-- MODE with target RESUME (R145, R146). -/
  | modeResume (dt : Nat) (tag : Byte)
  /-- MODE with target STANDBY (R145, R148). -/
  | modeStandby (dt : Nat) (tag : Byte)
  /-- RECIPE-GAS (R40, R43). -/
  | recipeGas (dt : Nat) (tag : Byte) (product : Nat) (half : GasHalf)
  /-- RECIPE-CAM (R41, R44). -/
  | recipeCam (dt : Nat) (tag : Byte) (product : Nat) (half : CamHalf)
  /-- RECIPE-DROP (R45). -/
  | recipeDrop (dt : Nat) (tag : Byte) (product : Nat)
  /-- RECIPE-CLEAR (R46). -/
  | recipeClear (dt : Nat) (tag : Byte) (product : Nat)
  /-- RECIPE-READ (R54): the source byte is 0 live or 1 pending, the half byte 0 gas or 1 cam. -/
  | recipeRead (dt : Nat) (tag : Byte) (product source half : Nat)
  /-- HEAD-WRITE (R96). -/
  | headWrite (dt : Nat) (tag : Byte) (head : Nat) (resetCount : Bool) (fields : HeadFields)
  /-- HEAD-READ (R164). -/
  | headRead (dt : Nat) (tag : Byte) (head : Nat)
  /-- HEAD-STORE (R171). -/
  | headStore (dt : Nat) (tag : Byte) (head : Nat)
  /-- PROTECT (R172). -/
  | protect (dt : Nat) (tag : Byte) (marks : BitVec 4)
  /-- LATCH (R165). -/
  | latch (dt : Nat) (tag : Byte) (mask : BitVec 24)
  /-- SNAPSHOT (R166). -/
  | snapshot (dt : Nat) (tag : Byte) (head : Nat)
  /-- COUNTERS with the clear option off (R167). -/
  | counters (dt : Nat) (tag : Byte) (scope : Nat)
  /-- COUNTERS with the clear option on (R136, R167). -/
  | countersClear (dt : Nat) (tag : Byte) (scope : Nat)
  /-- ATTENTION: the flags to clear and, with the write-mask option, the new mask (R140). -/
  | attention (dt : Nat) (tag : Byte) (clear : BitVec 11) (mask : Option (BitVec 11))
  /-- CONFIG-WRITE of group 1 (R16). -/
  | configWriteADis (dt : Nat) (tag : Byte) (value : Nat)
  /-- CONFIG-WRITE of group 2 (R139). -/
  | configWriteFaultLimit (dt : Nat) (tag : Byte) (value : Nat)
  /-- CONFIG-WRITE of group 3 (R111). -/
  | configWriteNq (dt : Nat) (tag : Byte) (value : Nat)
  /-- CONFIG-WRITE of group 4 (R124). -/
  | configWriteLevelPair (dt : Nat) (tag : Byte) (value : Nat)
  /-- CONFIG-WRITE of group 5 (R125). -/
  | configWriteDipTolerance (dt : Nat) (tag : Byte) (value : Nat)
  /-- CONFIG-WRITE of group 6 (R62). -/
  | configWriteValveClassTable (dt : Nat) (tag : Byte) (value : Vector ValveClass 4)
  /-- CONFIG-WRITE of group 7 (R123). -/
  | configWriteFlowTable (dt : Nat) (tag : Byte) (value : Vector FlowBand 8)
  /-- CONFIG-READ (R168). -/
  | configRead (dt : Nat) (tag : Byte) (group : Nat)
  /-- RESTART, which reads the address pins (R152, R160). -/
  | restart (dt : Nat) (tag : WithPins Byte)
  deriving DecidableEq, Repr

end Sys2Proof
end

