-- ==== Sys2Proof/Decode.lean ====
section
/-! DEFINITION. The decoder asked of every model. The table gives no row of this block any bits: its commands are events and
requests, and no word spells one. -/

namespace Sys2Proof

/-- The command that a word spells by the bits of spec/opcode_table.json: none, since no row has bits. -/
def decodeTableWord (_nbits _w : Nat) : Option Instr := none

end Sys2Proof
end

