-- ==== Sys2Proof/Machine/State.lean ====
section
/-! DEFINITION. The state of the part, block by block as the spec gives it, the reasons a step can stop, and the state
right after reset. Plain data throughout: INVENTORY.md lists every field with its rule and its reset value. -/

namespace Sys2Proof.Machine

/-- Why a command would fault. It has no constructor: the spec gives every command of the table an effect on every state,
so no command faults. -/
inductive Fault
  deriving DecidableEq, Repr

/-- Why a command would be refused. -/
inductive Refusal where
  /-- Raised by `exec` alone, for a row that has no meaning yet; no arm raises it now. Safe: the machine stops. -/
  | notModelled (mnemonic : String)
  deriving DecidableEq, Repr

/-! ## The turret tracker (chapter 1) -/

/-- The direction of the latest encoder edge (section 1.1). -/
inductive Direction where
  | forward
  | reverse
  deriving DecidableEq, Repr

/-- The pitch timer: idle, running since the moment of the last forward pitch mark, or at saturation (R13, R14). -/
inductive PitchTimer where
  | idle
  | running (since : Nat)
  | saturated
  deriving DecidableEq, Repr

/-- What the tracker holds (the table of section 1.1). -/
structure Tracker where
  count : Nat
  direction : Direction
  hold : Nat
  pitch : Nat
  pitchTimer : PitchTimer
  marksSeen : Nat
  pValid : Bool
  aDis : Nat
  deriving DecidableEq, Repr

/-! ## The infeed unit (chapter 2) -/

/-- An accepted ticket as it waits in the infeed queue: fill and temperature absent or in range (R20). -/
structure Ticket where
  serial : Nat
  product : SlotNo
  fill : Option Nat
  temp : Option Int
  suspect : Bool
  deriving DecidableEq, Repr

/-- What the infeed unit holds (R22, R24, R29): the queue with its oldest ticket first. -/
structure Infeed where
  queue : List Ticket
  latch : Bool
  running : Option SlotNo
  deriving DecidableEq, Repr

/-! ## The recipe table (chapter 3) -/

/-- A complete recipe (R39). -/
structure Recipe where
  gas : GasHalf
  cam : CamHalf
  deriving DecidableEq, Repr

/-- The pending state together with the halves it holds (the second table of section 3.1). -/
inductive Pending where
  | none
  | gasOnly (gas : GasHalf)
  | camOnly (cam : CamHalf)
  | complete (gas : GasHalf) (cam : CamHalf)
  | removal
  deriving DecidableEq, Repr

/-- One slot of the recipe table (section 3.1). -/
structure Slot where
  live : Option Recipe
  pending : Pending
  version : Nat
  deriving DecidableEq, Repr

/-! ## The can context (section 2.5) -/

/-- The sixteen reasons, in code order (section 8.1). -/
inductive Reason where
  | noRecipe
  | untracked
  | headDisabled
  | notRunning
  | noSeal
  | overpressure
  | windowCut
  | underdose
  | supplyLow
  | settleRange
  | crimpDepth
  | crimpDiameter
  | crimpForce
  | crimpShort
  | ventIncomplete
  | aborted
  deriving DecidableEq, Repr

/-- The four informational flags (section 8.3). -/
structure InfoFlags where
  doseClamped : Bool
  doseLimited : Bool
  windowShort : Bool
  supplyDip : Bool
  deriving DecidableEq, Repr

/-- The six causes that can end a gassing (section 5.3). -/
inductive GasEndCause where
  | dosed
  | overpressure
  | noSeal
  | windowCut
  | supplyLow
  | aborted
  deriving DecidableEq, Repr

/-- What a gas start writes into the context: the moment the valve was commanded open, the command time and advisory, and
the recorded flow and lags (R63, R64, R66). -/
structure GasStart where
  openedAt : Nat
  command : Nat
  advisory : Nat
  flow : Nat
  lagOpen : Nat
  lagClose : Nat
  deriving DecidableEq, Repr

/-- What a gas end writes into the context (R68, R77). -/
structure GasFinish where
  elapsed : Nat
  cause : GasEndCause
  delivered : Nat
  deriving DecidableEq, Repr

/-- What the end of a crimp writes into the context (R110, R112). -/
structure CrimpResult where
  depth : Nat
  diameter : Nat
  qualified : Bool
  deriving DecidableEq, Repr

/-- The can context (section 2.5). Its head is the head that holds it. `reasons` is the reason set, listed in rising code
order without repeats (R128). -/
structure Context where
  serial : Nat
  product : SlotNo
  fill : Option Nat
  temp : Option Int
  suspect : Bool
  gas : GasHalf
  cam : CamHalf
  version : Nat
  dose : Nat
  flags : InfoFlags
  reasons : List Reason
  start : Option GasStart
  finish : Option GasFinish
  peak : Option Nat
  settle : Option Nat
  crimp : Option CrimpResult
  deriving DecidableEq, Repr

/-! ## The head sequencers and their measurement state (chapters 5 and 6) -/

/-- The nine head states (section 5.1). -/
inductive HeadState where
  | idle
  | bound
  | sealed
  | gassing
  | settling
  | crimping
  | crimped
  | venting
  | lifted
  deriving DecidableEq, Repr

/-- The vent mode: off, pulsing with the pulses left and the phase, or held (section 5.1). -/
inductive VentMode where
  | off
  | pulsing (left : Nat) (phaseOn : Bool)
  | held
  deriving DecidableEq, Repr

/-- A head table entry (section 5.7). -/
structure HeadEntry where
  enabled : Bool
  valveClass : Fin 4
  bellOffset : Int
  depthOffset : Int
  diameterOffset : Int
  deriving DecidableEq, Repr

/-- What a LATCH captures of one head (R165). -/
structure Snapshot where
  state : HeadState
  angle : Nat
  serial : Option Nat
  elapsed : Option Nat
  reading : Nat
  peak : Option Nat
  faults : Nat
  deriving DecidableEq, Repr

/-- The threshold and run length held for the crimp in hand (R108). -/
structure Qualification where
  threshold : Nat
  runLength : Nat
  deriving DecidableEq, Repr

/-- The messages sent to a head and not yet taken by it, how many of each kind: HALT (R147), LOW (R119), over-pressure
trips (R104) and seal-level reports (R106). The spec implies them: a head takes each as an event of its own (log entry 5). -/
structure Inbox where
  halts : Nat
  lows : Nat
  trips : Nat
  sealReports : Nat
  deriving DecidableEq, Repr

/-- Everything held per head: the table of section 5.1, the four outputs (R73), the table of chapter 6 and the messages in
flight to the head. A timer is `none` when idle, else the moment in µs at which it expires. -/
structure Head where
  state : HeadState
  ctx : Option Context
  clamp : Bool
  gasValve : Bool
  ventValve : Bool
  collet : Bool
  commandTimer : Option Nat
  sealTimer : Option Nat
  sealReached : Bool
  dwellTimer : Option Nat
  ventMode : VentMode
  ventTimer : Option Nat
  haltHold : Bool
  resetVentTimer : Option Nat
  entry : HeadEntry
  faults : Nat
  snapshot : Option Snapshot
  reading : Nat
  comparator : Option Nat
  sealWatch : Option Nat
  qualification : Option Qualification
  runCount : Nat
  qualified : Bool
  inbox : Inbox
  deriving DecidableEq, Repr

/-! ## The supply monitor (chapter 7) -/

/-- The three supply states (section 7.2). -/
inductive SupplyState where
  | normal
  | dip
  | low
  deriving DecidableEq, Repr

/-- What the supply monitor holds (the table of chapter 7). -/
structure Supply where
  pm : Nat
  state : SupplyState
  dipTimer : Option Nat
  levelPair : Fin 4
  dipTolerance : Nat
  flow : Vector FlowBand 8
  deriving DecidableEq, Repr

/-! ## The verdict and report unit (chapter 8) -/

/-- One head's counters (section 8.5). -/
structure HeadCounters where
  processed : Nat
  accepted : Nat
  rejected : Nat
  headFaults : Nat
  deriving DecidableEq, Repr

/-- The part-wide counters (section 8.5); `rejects` has the counter of reason code n at n − 1. -/
structure PartCounters where
  voids : Nat
  untracked : Nat
  duplicates : Nat
  overruns : Nat
  malformed : Nat
  relayDrops : Nat
  verdictsLost : Nat
  repliesLost : Nat
  headBusy : Nat
  rejects : Vector Nat 16
  deriving DecidableEq, Repr

/-- What the verdict and report unit holds (the table of chapter 8). `flags` and `mask` have bit 0 INFEED_OVERRUN through
bit 10 UNTRACKED_CAN (R161); a set mask bit is an enabled flag (log entry 9). -/
structure Report where
  heads : Vector HeadCounters 24
  part : PartCounters
  faultLimit : Nat
  flags : BitVec 11
  mask : BitVec 11
  deriving DecidableEq, Repr

/-! ## Mode control (chapter 9) -/

/-- The four operating modes. -/
inductive Mode where
  | standby
  | run
  | drain
  | halt
  deriving DecidableEq, Repr

/-- The HALT cause (section 9.1). -/
inductive HaltCause where
  | none
  | requested
  | reverse
  | encoderSlip
  deriving DecidableEq, Repr

/-! ## The ring port (chapter 10) -/

/-- The three verdicts (R129). -/
inductive Verdict where
  | accept
  | reject
  | void
  deriving DecidableEq, Repr

/-- The gassing fields of a discharge ticket, which share one presence mark (R161). -/
structure GasFigures where
  command : Nat
  elapsed : Nat
  cause : GasEndCause
  delivered : Nat
  peak : Nat
  advisory : Nat
  deriving DecidableEq, Repr

/-- A discharge ticket (R132, R133); an absent field is `none`. -/
structure DischargeTicket where
  serial : Nat
  product : SlotNo
  head : HeadNo
  version : Option Nat
  fill : Option Nat
  temp : Option Int
  suspect : Option Bool
  flags : Option InfoFlags
  verdict : Verdict
  reasons : List Reason
  dose : Option Nat
  gassing : Option GasFigures
  settle : Option Nat
  crimp : Option CrimpResult
  summary : Bool
  deriving DecidableEq, Repr

/-- The result codes of a reply, in the order of their codes (section 11.1, R161). -/
inductive Result where
  | done
  | started
  | wrongMode
  | badField
  | busy
  | protect
  | empty
  | unknown
  deriving DecidableEq, Repr

/-- A reply (R162): the echoed kind, the tag, the result, the attention summary and the data section. -/
structure Reply where
  kind : Byte
  tag : Byte
  result : Result
  summary : Bool
  data : List Byte
  deriving DecidableEq, Repr

/-- A frame the part originates (section 10.3). -/
inductive OriginFrame where
  | ticket (t : DischargeTicket)
  | reply (r : Reply)
  deriving DecidableEq, Repr

/-- The queue the arbiter served last (R159). -/
inductive Served where
  | relay
  | origin
  deriving DecidableEq, Repr

/-- What the ring port holds (the table of chapter 10), with the levels on the address pins. `transmitter` is the frame
being sent, byte for byte, or `none` when idle; both queues have their oldest frame first. -/
structure Ring where
  pins : BitVec 5
  own : Option Nat
  relay : List (List Byte)
  origin : List OriginFrame
  transmitter : Option (List Byte)
  lastServed : Served
  deriving DecidableEq, Repr

/-! ## The head calibration store (chapter 12) -/

/-- A store operation in flight (chapter 12). -/
inductive StoreOp where
  | headWrite (h : HeadNo) (entry : HeadEntry)
  | markWrite (marks : BitVec 4)
  deriving DecidableEq, Repr

/-- What the store holds (the table of chapter 12): a blank entry is `none`, mark g is bit g, and the store is BUSY exactly
when an operation is in flight. -/
structure Store where
  entries : Vector (Option HeadEntry) 24
  marks : BitVec 4
  op : Option StoreOp
  timer : Option Nat
  deriving DecidableEq, Repr

/-! ## The whole part -/

/-- The state of the part. `now` is the model's own clock in µs (log entry 1). `requestsInHand` and `ticketsInHand` are the
requests and infeed tickets that the ring port has handed on and their units have not yet taken (R156, log entry 6).
`pending` is the queue of commands that wait, first in, first out. -/
structure State where
  now : Nat
  tracker : Tracker
  infeed : Infeed
  recipes : Vector Slot 16
  valves : Vector ValveClass 4
  heads : Vector Head 24
  nq : Nat
  supply : Supply
  report : Report
  mode : Mode
  haltCause : HaltCause
  lineStop : Bool
  ring : Ring
  store : Store
  requestsInHand : List (Byte × Request)
  ticketsInHand : List (Byte × List Byte)
  pending : List Instr
  deriving DecidableEq, Repr

/-! ## Reset values -/

/-- The blank defaults of a head table entry (section 5.7). -/
def HeadEntry.blank : HeadEntry := ⟨true, 0, 0, 0, 0⟩

/-- A head right after reset, with the working entry it loads and the moment its reset vent ends (R98, R114). -/
def Head.afterReset (entry : HeadEntry) (ventEnds : Nat) : Head where
  state := .idle
  ctx := none
  clamp := false
  gasValve := false
  ventValve := true
  collet := false
  commandTimer := none
  sealTimer := none
  sealReached := false
  dwellTimer := none
  ventMode := .off
  ventTimer := none
  haltHold := false
  resetVentTimer := some ventEnds
  entry := entry
  faults := 0
  snapshot := none
  reading := 0
  comparator := none
  sealWatch := none
  qualification := none
  runCount := 0
  qualified := false
  inbox := ⟨0, 0, 0, 0⟩

/-- The part right after its first reset, never written before: every field at the value its chapter gives (R1, R36, R56,
R61, R98, R111, R114, R126, R142, R144, R160, R169, R170). The pins are the model's choice (log entry 4), and the clock
starts at 0 (log entry 1). -/
def State.reset : State where
  now := 0
  tracker :=
    { count := 0, direction := .forward, hold := 0, pitch := Config.pitchSaturation, pitchTimer := .idle
      marksSeen := 0, pValid := false, aDis := 5632 }
  infeed := { queue := [], latch := false, running := none }
  recipes := Vector.replicate 16 { live := none, pending := .none, version := 0 }
  valves := Config.valveDefaults
  heads := Vector.replicate 24 (Head.afterReset HeadEntry.blank Config.resetVentTime)
  nq := 16
  supply :=
    { pm := 0, state := .normal, dipTimer := none, levelPair := 1, dipTolerance := 40
      flow := Config.flowDefaults }
  report :=
    { heads := Vector.replicate 24 ⟨0, 0, 0, 0⟩
      part := ⟨0, 0, 0, 0, 0, 0, 0, 0, 0, Vector.replicate 16 0⟩
      faultLimit := 3, flags := 0, mask := BitVec.allOnes 11 }
  mode := .standby
  haltCause := .none
  lineStop := false
  ring :=
    { pins := Config.bootPins, own := some 1, relay := [], origin := [], transmitter := none
      lastServed := .origin }
  store := { entries := Vector.replicate 24 none, marks := 0, op := none, timer := none }
  requestsInHand := []
  ticketsInHand := []
  pending := []

end Sys2Proof.Machine
end

