-- ==== Sys2Proof/Machine/Flags.lean ====
section
/-! DEFINITION. Reasons and the reason set, informational flags, attention flags and the summary (chapter 8), and the
saturating counters (R134). -/

namespace Sys2Proof.Machine

/-- The code of a reason (section 8.1). -/
def Reason.code : Reason → Nat
  | .noRecipe => 1
  | .untracked => 2
  | .headDisabled => 3
  | .notRunning => 4
  | .noSeal => 5
  | .overpressure => 6
  | .windowCut => 7
  | .underdose => 8
  | .supplyLow => 9
  | .settleRange => 10
  | .crimpDepth => 11
  | .crimpDiameter => 12
  | .crimpForce => 13
  | .crimpShort => 14
  | .ventIncomplete => 15
  | .aborted => 16

/-- Add a reason to a reason set: no repeats, rising code order (R128). -/
def addReason (r : Reason) : List Reason → List Reason
  | [] => [r]
  | x :: xs =>
    if r.code < x.code then r :: x :: xs
    else if r = x then x :: xs
    else x :: addReason r xs

/-- Add a reason when a test calls for it. -/
def addReasonIf (p : Bool) (r : Reason) (rs : List Reason) : List Reason :=
  if p then addReason r rs else rs

/-- The verdict of a discharged context (R129). -/
def verdictOf (rs : List Reason) : Verdict :=
  if rs.isEmpty then .accept else .reject

/-- The three reasons that make a cycle faulty (section 8.6). -/
def isHeadFault : Reason → Bool
  | .noSeal | .ventIncomplete | .crimpForce => true
  | _ => false

/-- A cycle is faulty when its reason set holds one of the three or more (section 8.6). -/
def faultyCycle (rs : List Reason) : Bool := rs.any isHeadFault

/-- The reason a gassing's end cause adds, if it adds one (section 5.3). -/
def GasEndCause.reason : GasEndCause → Option Reason
  | .dosed => none
  | .overpressure => some .overpressure
  | .noSeal => some .noSeal
  | .windowCut => some .windowCut
  | .supplyLow => some .supplyLow
  | .aborted => some .aborted

/-- No informational flag set (R130). -/
def InfoFlags.clear : InfoFlags := ⟨false, false, false, false⟩

/-- The eleven attention flags, in the order of the table in section 8.7. -/
inductive AttentionFlag where
  | infeedOverrun
  | duplicateTicket
  | ringError
  | relayDrop
  | verdictLost
  | replyLost
  | headDisabled
  | supplyLow
  | halted
  | storeDone
  | untrackedCan
  deriving DecidableEq, Repr

/-- The place of a flag in the 2-byte set (R161): bit 0 INFEED_OVERRUN through bit 10 UNTRACKED_CAN. -/
def AttentionFlag.mark : AttentionFlag → BitVec 11
  | .infeedOverrun => 0x001
  | .duplicateTicket => 0x002
  | .ringError => 0x004
  | .relayDrop => 0x008
  | .verdictLost => 0x010
  | .replyLost => 0x020
  | .headDisabled => 0x040
  | .supplyLow => 0x080
  | .halted => 0x100
  | .storeDone => 0x200
  | .untrackedCan => 0x400

/-- An event sets its attention flag, which is sticky (R140). -/
def State.raise (f : AttentionFlag) (s : State) : State :=
  { s with report := { s.report with flags := s.report.flags ||| f.mark } }

/-- The attention summary: some flag is both set and enabled in the mask (R141). -/
def State.summary (s : State) : Bool := (s.report.flags &&& s.report.mask) != 0

/-- Raise a counter by 1, unless it stands at its top (R134). -/
def bump (n : Nat) : Nat := if n < Config.counterMax then n + 1 else n

/-- Raise one of the part-wide counters. -/
def State.bumpPart (f : PartCounters → PartCounters) (s : State) : State :=
  { s with report := { s.report with part := f s.report.part } }

def PartCounters.bumpVoids (p : PartCounters) : PartCounters := { p with voids := bump p.voids }
def PartCounters.bumpUntracked (p : PartCounters) : PartCounters := { p with untracked := bump p.untracked }
def PartCounters.bumpDuplicates (p : PartCounters) : PartCounters := { p with duplicates := bump p.duplicates }
def PartCounters.bumpOverruns (p : PartCounters) : PartCounters := { p with overruns := bump p.overruns }
def PartCounters.bumpMalformed (p : PartCounters) : PartCounters := { p with malformed := bump p.malformed }
def PartCounters.bumpRelayDrops (p : PartCounters) : PartCounters := { p with relayDrops := bump p.relayDrops }
def PartCounters.bumpVerdictsLost (p : PartCounters) : PartCounters := { p with verdictsLost := bump p.verdictsLost }
def PartCounters.bumpRepliesLost (p : PartCounters) : PartCounters := { p with repliesLost := bump p.repliesLost }
def PartCounters.bumpHeadBusy (p : PartCounters) : PartCounters := { p with headBusy := bump p.headBusy }

/-- The place of a reason's counter in `PartCounters.rejects`: reason code n at n − 1. -/
def Reason.index (r : Reason) : Fin 16 := ⟨r.code - 1, by cases r <;> decide⟩

/-- Raise the rejects-per-reason counter of one reason (R135). -/
def PartCounters.bumpReject (p : PartCounters) (r : Reason) : PartCounters :=
  { p with rejects := p.rejects.set r.index (bump p.rejects[r.index]) }

/-- Raise the rejects-per-reason counters of a ticket's reason list, once each (R135). -/
def PartCounters.bumpRejects (p : PartCounters) (rs : List Reason) : PartCounters :=
  rs.foldl PartCounters.bumpReject p

end Sys2Proof.Machine
end

