-- ==== Sys2Proof/Machine/Ops.lean ====
section
/-! DEFINITION. The named operations over the part's state that the families share: the clock, the heads, the recipe
promotion, the two ring queues with their arbiter, and the reset of the whole part. -/

namespace Sys2Proof.Machine

/-! ## The clock -/

/-- `dt` µs pass before the command is taken (log entry 1). Every exec begins with it. -/
def State.elapse (dt : Nat) (s : State) : State := { s with now := s.now + dt }

/-! ## What is in hand -/

/-- Whether a unit may take `x` now, of what the ring port has handed on: it is the one that arrived first, or none is in hand
and the command brings it (R162, log entry 6). -/
def inTurn {α : Type} [DecidableEq α] (x : α) (hand : List α) : Bool := hand.head?.all fun y => decide (y = x)

/-! ## The heads -/

/-- Head h. -/
def State.head (s : State) (h : HeadNo) : Head := s.heads[h]

/-- Put a head back. The one way an operation changes a single head. -/
def State.setHead (h : HeadNo) (hd : Head) (s : State) : State :=
  { s with heads := s.heads.set h hd }

/-- Change head h by `f`. -/
def State.onHead (h : HeadNo) (f : Head → Head) (s : State) : State :=
  s.setHead h (f (s.head h))

/-- Change every head by `f`, each on its own. -/
def State.onHeads (f : HeadNo → Head → Head) (s : State) : State :=
  { s with heads := Vector.ofFn fun h => f h (s.head h) }

/-- No head holds a can context (R145, R149). -/
def State.noContext (s : State) : Bool := s.heads.toList.all fun hd => hd.ctx.isNone

/-! ## The recipe table -/

/-- Recipe slot p. -/
def State.slot (s : State) (p : SlotNo) : Slot := s.recipes[p]

/-- Put a slot back. -/
def State.setSlot (p : SlotNo) (sl : Slot) (s : State) : State :=
  { s with recipes := s.recipes.set p sl }

/-- Promote one slot if its pending state is COMPLETE or REMOVAL; no other slot is ever promoted (R47). -/
def Slot.promote (sl : Slot) : Slot :=
  match sl.pending with
  | .complete g c => { live := some ⟨g, c⟩, pending := .none, version := (sl.version + 1) % 256 }
  | .removal => { live := none, pending := .none, version := (sl.version + 1) % 256 }
  | .none | .gasOnly _ | .camOnly _ => sl

/-- Promote every slot that is COMPLETE or REMOVAL (R48, R50). -/
def State.promoteAll (s : State) : State :=
  { s with recipes := Vector.ofFn fun p => (s.slot p).promote }

/-! ## Bytes of the frames the part originates -/

/-- The low `k` bytes of a number, most significant byte first (R161). -/
def bytesOf : Nat → Nat → List Byte
  | 0, _ => []
  | k + 1, n => bytesOf k (n / 256) ++ [BitVec.ofNat 8 n]

/-- A signed field of `k` bytes, two's complement, most significant byte first (R161). -/
def signedBytes (k : Nat) (i : Int) : List Byte := bytesOf k (BitVec.ofInt (8 * k) i).toNat

/-- One bit as a number. -/
def bit (b : Bool) : Nat := if b then 1 else 0

/-- One bit of the cyclic check: shift left, and subtract the generator if the bit shifted out is 1 (R154). -/
def crcBit (r : BitVec 16) : BitVec 16 :=
  if r.msb then (r <<< 1) ^^^ 0x1021 else r <<< 1

/-- One byte of the cyclic check, most significant bit first (R154). -/
def crcByte (r : BitVec 16) (b : Byte) : BitVec 16 :=
  Nat.repeat crcBit 8 (r ^^^ ((b.setWidth 16) <<< 8))

/-- The CRC of a frame's earlier bytes: generator x¹⁶ + x¹² + x⁵ + 1, starting from all ones, no final inversion (R154). -/
def crc (bytes : List Byte) : BitVec 16 := bytes.foldl crcByte 0xFFFF

/-- A whole frame: header, payload and CRC, the CRC most significant byte first (R154, R161). -/
def frameOf (kind address third : Byte) (payload : List Byte) : List Byte :=
  let body := [kind, address, third, BitVec.ofNat 8 payload.length] ++ payload
  body ++ bytesOf 2 (crc body).toNat

def Result.code : Result → Byte
  | .done => 0
  | .started => 1
  | .wrongMode => 2
  | .badField => 3
  | .busy => 4
  | .protect => 5
  | .empty => 6
  | .unknown => 7

def Verdict.code : Verdict → Byte
  | .accept => 0
  | .reject => 1
  | .void => 2

def GasEndCause.code : GasEndCause → Byte
  | .dosed => 1
  | .overpressure => 2
  | .noSeal => 3
  | .windowCut => 4
  | .supplyLow => 5
  | .aborted => 6

/-- The flags byte of a discharge ticket (R161). Its bits 4 to 7, which R161 leaves undefined, are sent as 0: DESIGN CHOICE,
log entry 20. -/
def InfoFlags.code (f : InfoFlags) : Nat :=
  bit f.doseClamped + 2 * bit f.doseLimited + 4 * bit f.windowShort + 8 * bit f.supplyDip

/-- Offset 10 of the discharge ticket payload (R161). -/
def DischargeTicket.presence (t : DischargeTicket) : Nat :=
  bit t.version.isSome + 2 * bit t.fill.isSome + 4 * bit t.temp.isSome + 8 * bit t.flags.isSome
    + 16 * bit t.dose.isSome + 32 * bit t.gassing.isSome + 64 * bit t.settle.isSome + 128 * bit t.crimp.isSome

/-- Offsets 12 and 13 of the discharge ticket payload: bit n − 1 for reason code n (R161). -/
def reasonBits (rs : List Reason) : Nat := rs.foldr (fun r bits => 2 ^ (r.code - 1) ||| bits) 0

/-- The 38 bytes of the discharge ticket payload; an absent field is sent as 0, a temperature as −32768 (R161). -/
def DischargeTicket.payload (t : DischargeTicket) : List Byte :=
  bytesOf 3 t.serial
  ++ bytesOf 1 t.product.val
  ++ bytesOf 1 t.head.val
  ++ bytesOf 1 (t.version.getD 0)
  ++ bytesOf 2 (t.fill.getD 0)
  ++ signedBytes 2 (t.temp.getD (-32768))
  ++ bytesOf 1 t.presence
  ++ [t.verdict.code]
  ++ bytesOf 2 (reasonBits t.reasons)
  ++ bytesOf 1 (t.flags.getD InfoFlags.clear).code
  ++ bytesOf 2 (t.dose.getD 0)
  ++ bytesOf 3 ((t.gassing.map (·.command)).getD 0)
  ++ bytesOf 3 ((t.gassing.map (·.elapsed)).getD 0)
  ++ [(t.gassing.map (·.cause.code)).getD 0]
  ++ bytesOf 3 ((t.gassing.map (·.delivered)).getD 0)
  ++ bytesOf 2 ((t.gassing.map (·.peak)).getD 0)
  ++ bytesOf 2 (t.settle.getD 0)
  ++ bytesOf 2 ((t.crimp.map (·.depth)).getD 0)
  ++ bytesOf 2 ((t.crimp.map (·.diameter)).getD 0)
  ++ bytesOf 1 ((t.crimp.map (bit ·.qualified)).getD 0)
  ++ bytesOf 2 ((t.gassing.map (·.advisory)).getD 0)

/-- The payload of a reply: kind, result, summary and data (R161). -/
def Reply.payload (r : Reply) : List Byte :=
  [r.kind, r.result.code] ++ bytesOf 1 (bit r.summary) ++ r.data

/-- The bytes of an originated frame, with the part's own address as source (R161, R162). Bits 2 to 7 of a ticket's header
byte 2, which R161 leaves undefined, are sent as 0: DESIGN CHOICE, log entry 20. -/
def OriginFrame.bytes (own : Nat) : OriginFrame → List Byte
  | .ticket t =>
    frameOf 2 (BitVec.ofNat 8 own) (BitVec.ofNat 8 (bit (t.suspect.getD false) + 2 * bit t.summary)) t.payload
  | .reply r => frameOf 4 (BitVec.ofNat 8 own) r.tag r.payload

/-! ## The ring queues and the transmit arbiter -/

/-- Start sending the oldest relay frame (R159). -/
def State.sendRelay (f : List Byte) (rest : List (List Byte)) (s : State) : State :=
  { s with ring := { s.ring with transmitter := some f, relay := rest, lastServed := .relay } }

/-- Start sending the oldest origin frame (R159). -/
def State.sendOrigin (f : OriginFrame) (rest : List OriginFrame) (s : State) : State :=
  { s with ring := { s.ring with
      transmitter := some (f.bytes (s.ring.own.getD 0)), origin := rest, lastServed := .origin } }

/-- The transmit arbiter: with the transmitter idle it starts the oldest frame of the queue it chooses, which is the queue
other than the last served when both hold frames (R159). -/
def State.arbitrate (s : State) : State :=
  if s.ring.transmitter.isSome then s
  else match s.ring.relay, s.ring.origin with
    | [], [] => s
    | f :: fs, [] => s.sendRelay f fs
    | [], g :: gs => s.sendOrigin g gs
    | f :: fs, g :: gs =>
      if s.ring.lastServed = .origin then s.sendRelay f fs else s.sendOrigin g gs

/-- Offer a frame to the relay queue, which holds at most 4 (R157). -/
def State.offerRelay (f : List Byte) (s : State) : State :=
  if s.ring.relay.length < 4 then
    State.arbitrate { s with ring := { s.ring with relay := s.ring.relay ++ [f] } }
  else (s.bumpPart PartCounters.bumpRelayDrops).raise .relayDrop

/-- Whether a frame of the origin queue is a reply. -/
def OriginFrame.isReply : OriginFrame → Bool
  | .reply _ => true
  | .ticket _ => false

/-- Append a frame at the tail of the origin queue and let the arbiter choose. -/
def State.enterOrigin (f : OriginFrame) (q : List OriginFrame) (s : State) : State :=
  State.arbitrate { s with ring := { s.ring with origin := q ++ [f] } }

/-- A reply is discarded or evicted: counted and flagged (R158). -/
def State.loseReply (s : State) : State :=
  (s.bumpPart PartCounters.bumpRepliesLost).raise .replyLost

/-- Offer a discharge ticket to the origin queue, which holds at most 8: into a full queue it evicts the oldest reply, and
with no reply there it is lost (R158). -/
def State.offerTicket (t : DischargeTicket) (s : State) : State :=
  if s.ring.origin.length < 8 then s.enterOrigin (.ticket t) s.ring.origin
  else if s.ring.origin.any OriginFrame.isReply then
    s.loseReply.enterOrigin (.ticket t) (s.ring.origin.eraseP OriginFrame.isReply)
  else (s.bumpPart PartCounters.bumpVerdictsLost).raise .verdictLost

/-- Offer a reply to the origin queue: into a full queue it is discarded (R158). -/
def State.offerReply (r : Reply) (s : State) : State :=
  if s.ring.origin.length < 8 then s.enterOrigin (.reply r) s.ring.origin
  else s.loseReply

/-! ## Reset -/

/-- The part's own address by the levels on its pins: 1 to 30, or none for 0 and 31 (R156). -/
def ownAddress (pins : BitVec 5) : Option Nat :=
  if pins = 0 ∨ pins = 31 then none else some pins.toNat

/-- A reset settles an operation in flight without completing it: an interrupted head write leaves that head's entry blank,
an interrupted mark write leaves all four marks clear (R170, R173). -/
def Store.settle (st : Store) : Store :=
  match st.op with
  | none => { st with op := none, timer := none }
  | some (.headWrite h _) => { st with entries := st.entries.set h none, op := none, timer := none }
  | some (.markWrite _) => { st with marks := 0, op := none, timer := none }

/-- What power-up, the reset line and RESTART do to every block (R151, R152): everything takes its reset value, but the
store keeps what R170 says, the working entries are loaded from it, the own address is read from the pins, and the model's
clock and the commands that wait are no part of the machine's reset. -/
def State.resetPart (pins : BitVec 5) (s : State) : State :=
  let store := s.store.settle
  { State.reset with
    now := s.now
    heads := Vector.ofFn fun h =>
      Head.afterReset (store.entries[h].getD HeadEntry.blank) (s.now + Config.resetVentTime)
    ring := { State.reset.ring with pins := pins, own := ownAddress pins }
    store := store
    pending := s.pending }

end Sys2Proof.Machine
end

