-- ==== Sys2Proof/Machine/Operands.lean ====
section
/-! DEFINITION. The operand forms of the commands: reading the fields of a received frame, what the payload of a request
spells, the contents check of an infeed ticket, and the range checks of recipe halves, head entries and line-configuration
groups; with them the layouts in which the same values go out in replies. -/

namespace Sys2Proof.Machine

/-! ## Fields of received bytes -/

/-- The byte at an offset, as a number; 0 past the end (never read there: lengths are checked first). -/
def byteAt (bs : List Byte) (off : Nat) : Nat := (bs.getD off 0).toNat

/-- An unsigned field of `k` bytes at an offset, most significant byte first (R161). -/
def fieldAt (bs : List Byte) (off : Nat) : Nat → Nat
  | 0 => 0
  | k + 1 => fieldAt bs off k * 256 + byteAt bs (off + k)

/-- A signed field of `k` bytes at an offset, two's complement (R161). -/
def signedAt (bs : List Byte) (off k : Nat) : Int := (BitVec.ofNat (8 * k) (fieldAt bs off k)).toInt

/-- The gas half in its request layout, starting at an offset: 27 bytes (R161). -/
def gasHalfAt (bs : List Byte) (off : Nat) : GasHalf where
  d0 := fieldAt bs off 2
  dMin := fieldAt bs (off + 2) 2
  dMax := fieldAt bs (off + 4) 2
  dTol := fieldAt bs (off + 6) 2
  f0 := fieldAt bs (off + 8) 2
  kh := fieldAt bs (off + 10) 2
  t0 := signedAt bs (off + 12) 2
  kt := signedAt bs (off + 14) 2
  tMax := fieldAt bs (off + 16) 3
  sealLevel := fieldAt bs (off + 19) 2
  sealTime := byteAt bs (off + 21)
  overStep := byteAt bs (off + 22)
  settleMin := fieldAt bs (off + 23) 2
  settleMax := fieldAt bs (off + 25) 2

/-- The cam half in its request layout, starting at an offset: 27 bytes (R161). -/
def camHalfAt (bs : List Byte) (off : Nat) : CamHalf where
  sealAngle := fieldAt bs off 2
  gasStart := fieldAt bs (off + 2) 2
  gasEnd := fieldAt bs (off + 4) 2
  crimp := fieldAt bs (off + 6) 2
  vent := fieldAt bs (off + 8) 2
  lift := fieldAt bs (off + 10) 2
  dwell := byteAt bs (off + 12)
  depthMin := fieldAt bs (off + 13) 2
  depthMax := fieldAt bs (off + 15) 2
  diameterMin := fieldAt bs (off + 17) 2
  diameterMax := fieldAt bs (off + 19) 2
  force := fieldAt bs (off + 21) 2
  pulses := byteAt bs (off + 23)
  ventPeriod := byteAt bs (off + 24)
  ventOn := byteAt bs (off + 25)
  ventClear := byteAt bs (off + 26)

/-- The head entry in its request layout, starting at an offset: 6 bytes (R161). -/
def headFieldsAt (bs : List Byte) (off : Nat) : HeadFields where
  enabled := byteAt bs off
  valveClass := byteAt bs (off + 1)
  bellOffset := signedAt bs (off + 2) 2
  depthOffset := signedAt bs (off + 4) 1
  diameterOffset := signedAt bs (off + 5) 1

/-! ## What a request payload spells -/

/-- The target byte of a MODE request (R161). -/
def modeTarget : Nat → Option ModeTarget
  | 1 => some .run
  | 2 => some .drain
  | 3 => some .halt
  | 4 => some .resume
  | 5 => some .standby
  | _ => none

/-- The payload length of a CONFIG-WRITE by the group it names; none for an undefined group (R161, R168). -/
def configLength : Nat → Option Nat
  | 1 => some 4
  | 2 | 3 | 4 | 5 => some 3
  | 6 => some 18
  | 7 => some 34
  | _ => none

/-- The group and values of a CONFIG-WRITE payload whose group is defined and whose length is right (R161). -/
def configValueAt (p : List Byte) : Nat → Option ConfigValue
  | 1 => some (.aDis (fieldAt p 2 2))
  | 2 => some (.faultLimit (byteAt p 2))
  | 3 => some (.nq (byteAt p 2))
  | 4 => some (.levelPair (byteAt p 2))
  | 5 => some (.dipTolerance (byteAt p 2))
  | 6 => some (.valves (Vector.ofFn fun k => ⟨fieldAt p (2 + 4 * k.val) 2, fieldAt p (4 + 4 * k.val) 2⟩))
  | 7 => some (.flow (Vector.ofFn fun k => ⟨fieldAt p (2 + 4 * k.val) 2, fieldAt p (4 + 4 * k.val) 2⟩))
  | _ => none

/-- The payload length that a request kind's layout gives; none for an undefined kind. The length of a CONFIG-WRITE depends
on the group that its second byte names (R161, R162). -/
def requestLength (p : List Byte) : Nat → Option (Option Nat)
  | 1 | 18 => some (some 1)
  | 2 | 5 | 6 | 9 | 10 | 11 | 13 | 17 => some (some 2)
  | 3 | 4 => some (some 29)
  | 7 | 12 => some (some 4)
  | 8 => some (some 9)
  | 14 => some (some 3)
  | 15 => some (some 6)
  | 16 => some (if 2 ≤ p.length then configLength (byteAt p 1) else none)
  | _ => none

/-- The arguments of a request whose kind is defined and whose length is right (R161). Undefined option and mark bits are
dropped here (R162). -/
def requestArguments (p : List Byte) (kind : Nat) : Request :=
  match kind with
  | 1 => .status
  | 2 =>
    match modeTarget (byteAt p 1) with
    | some t => .mode t
    | none => .malformed 2
  | 3 => .recipeGas (byteAt p 1) (gasHalfAt p 2)
  | 4 => .recipeCam (byteAt p 1) (camHalfAt p 2)
  | 5 => .recipeDrop (byteAt p 1)
  | 6 => .recipeClear (byteAt p 1)
  | 7 => .recipeRead (byteAt p 1) (byteAt p 2) (byteAt p 3)
  | 8 => .headWrite (byteAt p 1) ((byteAt p 2).testBit 0) (headFieldsAt p 3)
  | 9 => .headRead (byteAt p 1)
  | 10 => .headStore (byteAt p 1)
  | 11 => .protect (BitVec.ofNat 4 (byteAt p 1))
  | 12 => .latch (BitVec.ofNat 24 (fieldAt p 1 3))
  | 13 => .snapshot (byteAt p 1)
  | 14 => .counters (byteAt p 1) ((byteAt p 2).testBit 0)
  | 15 =>
    .attention (BitVec.ofNat 11 (fieldAt p 1 2))
      (if (byteAt p 3).testBit 0 then some (BitVec.ofNat 11 (fieldAt p 4 2)) else none)
  | 16 =>
    match configValueAt p (byteAt p 1) with
    | some v => .configWrite v
    | none => .malformed 16
  | 17 => .configRead (byteAt p 1)
  | 18 => .restart
  | _ => .unknown (BitVec.ofNat 8 kind)

/-- What a request payload spells, with checks 1 and 2 of R162 in their order. -/
def requestOf (p : List Byte) : Request :=
  match p with
  | [] => .unknown 0
  | k :: _ =>
    match requestLength p k.toNat with
    | none => .unknown k
    | some n => if n = some p.length then requestArguments p k.toNat else .malformed k

/-- The kind byte that a reply echoes (R161). -/
def requestKind : Request → Byte
  | .unknown k | .malformed k => k
  | .status => 1
  | .mode _ => 2
  | .recipeGas _ _ => 3
  | .recipeCam _ _ => 4
  | .recipeDrop _ => 5
  | .recipeClear _ => 6
  | .recipeRead _ _ _ => 7
  | .headWrite _ _ _ => 8
  | .headRead _ => 9
  | .headStore _ => 10
  | .protect _ => 11
  | .latch _ => 12
  | .snapshot _ => 13
  | .counters _ _ => 14
  | .attention _ _ => 15
  | .configWrite _ => 16
  | .configRead _ => 17
  | .restart => 18

/-! ## The infeed ticket -/

/-- An infeed ticket by its payload and header byte 2, or none when it is malformed (R19); an accepted one has its fill and
temperature in their working range (R20). -/
def ticketOf (ticketFlags : Byte) (p : List Byte) : Option Ticket :=
  let serial := fieldAt p 0 3
  let product := byteAt p 3
  let fill := fieldAt p 4 2
  let temp := signedAt p 6 2
  if p.length ≠ 8 ∨ serial = 0 ∨ serial = Config.untrackedSerial ∨ 15 < product ∨ 9999 < fill then none
  else some
    { serial := serial
      product := Fin.ofNat 16 product
      fill := if fill = 0 then none else some fill
      temp := if temp = -32768 then none else some (max (-100) (min 300 temp))
      suspect := ticketFlags.toNat.testBit 0 }

/-! ## Range checks -/

/-- A gas half passes R40 (its product code is checked apart). -/
abbrev gasValid (g : GasHalf) : Prop :=
  (500 ≤ g.d0 ∧ g.d0 ≤ 15000) ∧ (500 ≤ g.dMin ∧ g.dMin ≤ 15000) ∧ (500 ≤ g.dMax ∧ g.dMax ≤ 15000)
  ∧ g.dTol ≤ 2000 ∧ (500 ≤ g.f0 ∧ g.f0 ≤ 9999) ∧ g.kh ≤ 400
  ∧ (-100 ≤ g.t0 ∧ g.t0 ≤ 300) ∧ (-200 ≤ g.kt ∧ g.kt ≤ 200)
  ∧ (10000 ≤ g.tMax ∧ g.tMax ≤ 2000000) ∧ (50 ≤ g.sealLevel ∧ g.sealLevel ≤ 600)
  ∧ (2 ≤ g.sealTime ∧ g.sealTime ≤ 100) ∧ (1 ≤ g.overStep ∧ g.overStep ≤ 15)
  ∧ g.settleMin ≤ 1500 ∧ g.settleMax ≤ 1500
  ∧ (g.dMin ≤ g.d0 ∧ g.d0 ≤ g.dMax) ∧ g.settleMin ≤ g.settleMax

/-- The six angles are in order, the first at least 1 and the last below a discharge angle (R39, R41). -/
abbrev anglesBelow (c : CamHalf) (aDis : Nat) : Prop :=
  1 ≤ c.sealAngle ∧ c.sealAngle < c.gasStart ∧ c.gasStart < c.gasEnd ∧ c.gasEnd < c.crimp ∧ c.crimp < c.vent
  ∧ c.vent < c.lift ∧ c.lift < aDis

/-- A cam half passes R41 with the discharge angle in force (its product code is checked apart). -/
abbrev camValid (c : CamHalf) (aDis : Nat) : Prop :=
  anglesBelow c aDis ∧ c.lift ≤ 6143
  ∧ (5 ≤ c.dwell ∧ c.dwell ≤ 200) ∧ c.depthMin ≤ 9999 ∧ c.depthMax ≤ 9999
  ∧ c.diameterMin ≤ 9999 ∧ c.diameterMax ≤ 9999 ∧ (1 ≤ c.force ∧ c.force ≤ 20000) ∧ c.pulses ≤ 15
  ∧ (2 ≤ c.ventPeriod ∧ c.ventPeriod ≤ 50) ∧ (1 ≤ c.ventOn ∧ c.ventOn ≤ c.ventPeriod) ∧ c.ventClear ≤ 200
  ∧ c.depthMin ≤ c.depthMax ∧ c.diameterMin ≤ c.diameterMax

/-- The checked head entry of a HEAD-WRITE, or none when a field is outside its range in section 5.7 (R96). -/
def headEntryOf (f : HeadFields) : Option HeadEntry :=
  if h : f.enabled ≤ 1 ∧ f.valveClass < 4 ∧ (-100 ≤ f.bellOffset ∧ f.bellOffset ≤ 100)
      ∧ (-50 ≤ f.depthOffset ∧ f.depthOffset ≤ 50) ∧ (-50 ≤ f.diameterOffset ∧ f.diameterOffset ≤ 50) then
    some ⟨f.enabled == 1, ⟨f.valveClass, h.2.1⟩, f.bellOffset, f.depthOffset, f.diameterOffset⟩
  else none

/-- Every lag of a valve class table lies in 0..20,000 µs (R62). -/
def valvesValid (v : Vector ValveClass 4) : Bool :=
  v.toList.all fun c => decide (c.lagOpen ≤ 20000) && decide (c.lagClose ≤ 20000)

/-- The floors of a list of bands rise strictly. -/
def floorsRise : List FlowBand → Bool
  | a :: b :: rest => decide (a.floor < b.floor) && floorsRise (b :: rest)
  | _ => true

/-- Every floor of a flow table lies in 0..1500, every Q in 1..2000, and the floors rise strictly (R123). -/
def flowValid (v : Vector FlowBand 8) : Bool :=
  (v.toList.all fun b => decide (b.floor ≤ 1500) && decide (1 ≤ b.flow) && decide (b.flow ≤ 2000))
    && floorsRise v.toList

/-! ## The same values in replies -/

/-- A gas half in its request layout (R161). -/
def gasBytes (g : GasHalf) : List Byte :=
  bytesOf 2 g.d0 ++ bytesOf 2 g.dMin ++ bytesOf 2 g.dMax ++ bytesOf 2 g.dTol ++ bytesOf 2 g.f0 ++ bytesOf 2 g.kh
  ++ signedBytes 2 g.t0 ++ signedBytes 2 g.kt ++ bytesOf 3 g.tMax ++ bytesOf 2 g.sealLevel ++ bytesOf 1 g.sealTime
  ++ bytesOf 1 g.overStep ++ bytesOf 2 g.settleMin ++ bytesOf 2 g.settleMax

/-- A cam half in its request layout (R161). -/
def camBytes (c : CamHalf) : List Byte :=
  bytesOf 2 c.sealAngle ++ bytesOf 2 c.gasStart ++ bytesOf 2 c.gasEnd ++ bytesOf 2 c.crimp ++ bytesOf 2 c.vent
  ++ bytesOf 2 c.lift ++ bytesOf 1 c.dwell ++ bytesOf 2 c.depthMin ++ bytesOf 2 c.depthMax ++ bytesOf 2 c.diameterMin
  ++ bytesOf 2 c.diameterMax ++ bytesOf 2 c.force ++ bytesOf 1 c.pulses ++ bytesOf 1 c.ventPeriod ++ bytesOf 1 c.ventOn
  ++ bytesOf 1 c.ventClear

/-- A head entry in its request layout (R161). -/
def HeadEntry.bytes (e : HeadEntry) : List Byte :=
  bytesOf 1 (bit e.enabled) ++ bytesOf 1 e.valveClass.val ++ signedBytes 2 e.bellOffset
  ++ signedBytes 1 e.depthOffset ++ signedBytes 1 e.diameterOffset

/-- The code of a slot's pending state (R161). -/
def Pending.code : Pending → Nat
  | .none => 0
  | .gasOnly _ => 1
  | .camOnly _ => 2
  | .complete _ _ => 3
  | .removal => 4

/-- A slot record: bit 7 live entry present and bits 0 to 2 the pending state, then the version (R161). Bits 3 to 6, which
R161 leaves undefined, are sent as 0: DESIGN CHOICE, log entry 20. -/
def Slot.record (sl : Slot) : List Byte :=
  bytesOf 1 (128 * bit sl.live.isSome + sl.pending.code) ++ bytesOf 1 sl.version

end Sys2Proof.Machine
end

