-- ==== Sys2Proof/Machine/CalStore.lean ====
section
/-! DEFINITION. The head calibration store (chapter 12): starting an operation and completing it. What a reset does to one in
flight stands in Ops.lean. -/

namespace Sys2Proof.Machine

/-- The protection group of a head: six heads to a group (R161, chapter 12). -/
def protectionGroup (h : HeadNo) : Nat := h.val / 6

/-- Start a store operation: it is in flight, the store is BUSY and the timer runs for 12 ms (R171, R172). -/
def State.startStore (op : StoreOp) (s : State) : State :=
  { s with store := { s.store with op := some op, timer := some (s.now + Config.storeTime) } }

/-- The operation in flight completes (R173). -/
def Store.complete (st : Store) : Store :=
  match st.op with
  | some (.headWrite h e) => { st with entries := st.entries.set h (some e), op := none, timer := none }
  | some (.markWrite m) => { st with marks := m, op := none, timer := none }
  | none => st

/-- STORE_OPERATION_TIMER_EXPIRY: it acts while an operation is in flight (R173). -/
def execStoreOperationTimerExpiry (dt : Nat) (s : State) : Host.Outcome State Fault Refusal :=
  if s.store.op.isSome then
    .next (State.raise .storeDone { s.elapse dt with store := s.store.complete })
  else .next (s.elapse dt)

end Sys2Proof.Machine
end

