-- ==== Sys2Proof/Machine/Recipes.lean ====
section
/-! DEFINITION. The recipe table's requests (chapter 3): building the pending entry, and reading. Promotion itself stands in
Ops.lean. -/

namespace Sys2Proof.Machine

/-- The pending entry after a gas half is written (R43). -/
def Pending.withGas (g : GasHalf) : Pending → Pending
  | .camOnly c | .complete _ c => .complete g c
  | .none | .gasOnly _ | .removal => .gasOnly g

/-- The pending entry after a cam half is written (R44). -/
def Pending.withCam (c : CamHalf) : Pending → Pending
  | .gasOnly g | .complete g _ => .complete g c
  | .none | .camOnly _ | .removal => .camOnly c

/-- The pending gas half, if one is held. -/
def Pending.gas : Pending → Option GasHalf
  | .gasOnly g | .complete g _ => some g
  | .none | .camOnly _ | .removal => Option.none

/-- The pending cam half, if one is held. -/
def Pending.cam : Pending → Option CamHalf
  | .camOnly c | .complete _ c => some c
  | .none | .gasOnly _ | .removal => Option.none

/-- Put a pending entry into a slot; in STANDBY and HALT a COMPLETE or REMOVAL entry is promoted at once (R49). -/
def State.setPending (p : SlotNo) (pend : Pending) (s : State) : State :=
  let sl := { s.slot p with pending := pend }
  s.setSlot p (if s.mode = .standby ∨ s.mode = .halt then sl.promote else sl)

end Sys2Proof.Machine
end

