-- ==== Sys2Proof/Machine/Dose.lean ====
section
/-! DEFINITION. The dose calculator (chapter 4): the committed dose at bind, the command time, window check and speed
advisory at gas start, and the delivered estimate at gas end, in exact whole-number arithmetic (R57). -/

namespace Sys2Proof.Machine

/-- `round` of R57: the nearest whole number of a / b, a half going away from zero. -/
def roundDiv (a : Int) (b : Nat) : Int :=
  let q : Int := ((2 * a.natAbs + b) / (2 * b) : Nat)
  if 0 ≤ a then q else -q

/-- `ceil` of R57. -/
def ceilDiv (a b : Nat) : Nat := (a + b - 1) / b

/-- The headspace correction Ch in mg (R58). -/
def headspaceCorrection (g : GasHalf) (fill : Option Nat) (suspect : Bool) : Int :=
  match fill with
  | none => 0
  | some f => if suspect then 0 else roundDiv (g.kh * ((g.f0 : Int) - f)) 10

/-- The temperature correction Ct in mg (R59). -/
def temperatureCorrection (g : GasHalf) (temp : Option Int) : Int :=
  match temp with
  | none => 0
  | some t => roundDiv (g.kt * (g.t0 - t)) 10

/-- The raw dose, D_raw = D0 + Ch + Ct (R60). -/
def rawDose (g : GasHalf) (fill : Option Nat) (temp : Option Int) (suspect : Bool) : Int :=
  g.d0 + headspaceCorrection g fill suspect + temperatureCorrection g temp

/-- The committed dose D: the raw dose brought into the recipe's limits (R60). -/
def committedDose (g : GasHalf) (fill : Option Nat) (temp : Option Int) (suspect : Bool) : Nat :=
  let raw := rawDose g fill temp suspect
  if raw < g.dMin then g.dMin else if (g.dMax : Int) < raw then g.dMax else raw.toNat

/-- DOSE_CLAMPED: D differs from D_raw (R60). -/
def doseClamped (g : GasHalf) (fill : Option Nat) (temp : Option Int) (suspect : Bool) : Bool :=
  decide ((committedDose g fill temp suspect : Int) ≠ rawDose g fill temp suspect)

/-- The band a manifold pressure selects: the highest-numbered whose floor is at or below it, else band 0 (R63, R122).
`best` is the flow of the band found so far. -/
def bandFlow (pm best : Nat) : List FlowBand → Nat
  | [] => best
  | b :: rest => bandFlow pm (if b.floor ≤ pm then b.flow else best) rest

/-- The flow Q of the band that a manifold pressure selects (R63, R122). -/
def flowAt (table : Vector FlowBand 8) (pm : Nat) : Nat := bandFlow pm table[0].flow table.toList

/-- The open time t_open in µs (R64, step 1). -/
def openTime (dose flow : Nat) : Nat := ceilDiv (dose * 10000) flow

/-- The command time after the lag allowance and the 1000 µs minimum (R64, steps 1 to 3). -/
def unlimitedCommand (dose flow lagOpen lagClose : Nat) : Nat :=
  let t : Int := (openTime dose flow : Int) + lagOpen - lagClose
  if t < 1000 then 1000 else t.toNat

/-- The command time t_cmd (R64). -/
def commandTime (dose flow lagOpen lagClose tMax : Nat) : Nat := min (unlimitedCommand dose flow lagOpen lagClose) tMax

/-- DOSE_LIMITED: the command time so far is above Tmax (R64, step 4). -/
def doseLimited (dose flow lagOpen lagClose tMax : Nat) : Bool :=
  decide (tMax < unlimitedCommand dose flow lagOpen lagClose)

/-- The window W in µs at a pitch time (R65). -/
def window (cam : CamHalf) (pitch : Nat) : Nat := (cam.gasEnd - cam.gasStart) * pitch / 256

/-- WINDOW_SHORT: with P valid, the command time is above the window (R65). -/
def windowShort (cam : CamHalf) (pitch : Nat) (pValid : Bool) (command : Nat) : Bool :=
  pValid && decide (window cam pitch < command)

/-- The speed advisory in cans per minute (R66). -/
def advisory (cam : CamHalf) (command : Nat) : Nat :=
  min 9999 (60000000 / ceilDiv (command * 256) (cam.gasEnd - cam.gasStart))

/-- Stages two and three at a gas start taken at moment `now`: what the calculator records in the context (R63, R64, R66). -/
def gasStartFigures (now dose tMax : Nat) (cam : CamHalf) (flow : Nat) (valve : ValveClass) : GasStart :=
  let command := commandTime dose flow valve.lagOpen valve.lagClose tMax
  { openedAt := now
    command := command
    advisory := advisory cam command
    flow := flow
    lagOpen := valve.lagOpen
    lagClose := valve.lagClose }

/-- The effective flow time in µs, not below 0 (R68, step 1). -/
def effectiveTime (elapsed lagOpen lagClose : Nat) : Nat := elapsed + lagClose - lagOpen

/-- The delivered estimate D_est in mg, by the figures recorded at gas start (R68). -/
def deliveredEstimate (g : GasStart) (elapsed : Nat) : Nat :=
  effectiveTime elapsed g.lagOpen g.lagClose * g.flow / 10000

/-- The underdose test: D_est is below D − Dtol (R69). -/
def isUnderdose (dose dTol delivered : Nat) : Bool := decide ((delivered : Int) < (dose : Int) - dTol)

/-- What a gas end does to the context: the elapsed time, the cause and the estimate are recorded, and UNDERDOSE and the
cause's own reason are added (R68, R69, R77 steps 2, 5 and 6). -/
def Context.endGassing (cause : GasEndCause) (elapsed : Nat) (c : Context) : Context :=
  match c.start with
  | none => { c with reasons := (cause.reason.map (addReason · c.reasons)).getD c.reasons }
  | some g =>
    let delivered := deliveredEstimate g elapsed
    let reasons := addReasonIf (isUnderdose c.dose c.gas.dTol delivered) .underdose c.reasons
    { c with
      finish := some ⟨elapsed, cause, delivered⟩
      reasons := (cause.reason.map (addReason · reasons)).getD reasons }

end Sys2Proof.Machine
end

