-- ==== Sys2Proof/Machine/ModeControl.lean ====
section
/-! DEFINITION. Mode control (chapter 9): the entries to the four modes, the drain check, the answers to MODE requests, and
the tracker's HALT request. -/

namespace Sys2Proof.Machine

/-- Enter STANDBY: the recipe table is told and promotes (R50, R148, R149). -/
def State.enterStandby (s : State) : State :=
  State.promoteAll { s with mode := .standby, haltCause := .none, lineStop := false }

/-- The drain check: in DRAIN with no head holding a context the part passes to STANDBY (R149). -/
def State.drainCheck (s : State) : State :=
  if s.mode = .drain ∧ s.noContext = true then s.enterStandby else s

/-- Enter RUN: the tracker is told and clears P valid and the marks-seen count (R15, R146). -/
def State.enterRun (s : State) : State :=
  { s with
    mode := .run, haltCause := .none, lineStop := false
    tracker := { s.tracker with pValid := false, marksSeen := 0 } }

/-- Enter DRAIN, with the drain check made at the entry (R148, R149). -/
def State.enterDrain (s : State) : State :=
  State.drainCheck { s with mode := .drain, haltCause := .none, lineStop := false }

/-- HALT is sent to a head, which takes it later as an event of its own (R147). -/
def Head.sendHalt (hd : Head) : Head := { hd with inbox := { hd.inbox with halts := hd.inbox.halts + 1 } }

/-- Enter HALT, as one action (R147): the mode, the cause, HALTED, the line-stop output, HALT to every head, and the recipe
table's promotion (R50). -/
def State.enterHalt (cause : HaltCause) (s : State) : State :=
  let t : State := { s with mode := .halt, haltCause := cause, lineStop := true }
  ((t.raise .halted).onHeads fun _ hd => hd.sendHalt).promoteAll

/-- A HALT taken by any route: it enters HALT in RUN and DRAIN only (R147). -/
def State.takeHalt (cause : HaltCause) (s : State) : State :=
  if s.mode = .run ∨ s.mode = .drain then s.enterHalt cause else s

/-- The HALT cause that a tracker request names (R18). -/
def trackerHaltCause : TrackerCause → HaltCause
  | .reverse => .reverse
  | .encoderSlip => .encoderSlip

/-- Mode control's answer to a MODE request, by the table of R145. -/
def State.takeMode (target : ModeTarget) (s : State) : State × Result :=
  match s.mode, target with
  | .standby, .run => (s.enterRun, .done)
  | .standby, .standby => (s, .done)
  | .standby, _ => (s, .wrongMode)
  | .run, .run => (s, .done)
  | .run, .resume => (s, .done)
  | .run, .drain => (s.enterDrain, .done)
  | .run, .halt => (s.enterHalt .requested, .done)
  | .run, .standby => (s, .wrongMode)
  | .drain, .drain => (s, .done)
  | .drain, .halt => (s.enterHalt .requested, .done)
  | .drain, _ => (s, .wrongMode)
  | .halt, .run => (s, .wrongMode)
  | .halt, .drain => (s.enterDrain, .done)
  | .halt, .halt => (s, .done)
  | .halt, .resume => (s.enterRun, .done)
  | .halt, .standby => if s.noContext then (s.enterStandby, .done) else (s, .busy)

/-- The code of a mode in a reply (R161). -/
def Mode.code : Mode → Nat
  | .standby => 0
  | .run => 1
  | .drain => 2
  | .halt => 3

/-- The code of a HALT cause in a reply (R161). -/
def HaltCause.code : HaltCause → Nat
  | .none => 0
  | .requested => 1
  | .reverse => 2
  | .encoderSlip => 3

/-- The data of a reply to a MODE request, whatever its result (R145, R161). -/
def State.modeData (s : State) : List Byte := bytesOf 1 s.mode.code ++ bytesOf 1 s.haltCause.code

/-- TRACKER_HALT_REQUEST: mode control takes a tracker HALT request (R147). -/
def execTrackerHaltRequest (dt : Nat) (cause : TrackerCause) (s : State) : Host.Outcome State Fault Refusal :=
  .next ((s.elapse dt).takeHalt (trackerHaltCause cause))

end Sys2Proof.Machine
end

