-- ==== Sys2Proof/Machine/Verdict.lean ====
section
/-! DEFINITION. The verdict and report unit (chapter 8): the discharge tickets, their counting, the fault accounting with
auto-disable, and the discharge event of a head (R91, R131). -/

namespace Sys2Proof.Machine

/-! ## Tickets -/

/-- The gassing fields of a ticket: present when the context's gassing began and ended (R132). -/
def Context.gasFigures (c : Context) : Option GasFigures :=
  match c.start, c.finish, c.peak with
  | some g, some f, some p => some ⟨g.command, f.elapsed, f.cause, f.delivered, p, g.advisory⟩
  | _, _, _ => none

/-- The discharge ticket of a context, field by field (R132). -/
def Context.ticket (h : HeadNo) (summary : Bool) (c : Context) : DischargeTicket where
  serial := c.serial
  product := c.product
  head := h
  version := some c.version
  fill := c.fill
  temp := c.temp
  suspect := some c.suspect
  flags := some c.flags
  verdict := verdictOf c.reasons
  reasons := c.reasons
  dose := some c.dose
  gassing := c.gasFigures
  settle := c.settle
  crimp := c.crimp
  summary := summary

/-- The ticket emitted at once at a pitch mark: everything but identity, verdict and reason is absent (R33, R133). -/
def emittedTicket (t : Ticket) (h : HeadNo) (reason : Option Reason) (summary : Bool) : DischargeTicket where
  serial := t.serial
  product := t.product
  head := h
  version := none
  fill := none
  temp := none
  suspect := none
  flags := none
  verdict := if reason.isSome then .reject else .void
  reasons := reason.toList
  dose := none
  gassing := none
  settle := none
  crimp := none
  summary := summary

/-! ## Counting -/

/-- Change one head's counters. -/
def State.bumpHead (h : HeadNo) (f : HeadCounters → HeadCounters) (s : State) : State :=
  { s with report := { s.report with heads := s.report.heads.set h (f s.report.heads[h]) } }

/-- A faulty cycle raises its head's head-faults counter (R137). -/
def HeadCounters.bumpFaults (k : HeadCounters) : HeadCounters := { k with headFaults := bump k.headFaults }

/-- A discharge raises processed, and accepted or rejected by the verdict (R135). -/
def HeadCounters.bumpDischarge (v : Verdict) (k : HeadCounters) : HeadCounters :=
  match v with
  | .accept => { k with processed := bump k.processed, accepted := bump k.accepted }
  | .reject => { k with processed := bump k.processed, rejected := bump k.rejected }
  | .void => { k with processed := bump k.processed }

/-- Count a discharged ticket (R135). -/
def State.countDischarged (t : DischargeTicket) (s : State) : State :=
  (s.bumpHead t.head (HeadCounters.bumpDischarge t.verdict)).bumpPart (·.bumpRejects t.reasons)

/-- Count a ticket emitted at once (R135). -/
def State.countEmitted (t : DischargeTicket) (s : State) : State :=
  match t.verdict with
  | .void => s.bumpPart PartCounters.bumpVoids
  | .accept | .reject => s.bumpPart (·.bumpRejects t.reasons)

/-- Emit a ticket at once: REJECT with its one reason, or VOID with none (R33, R133). -/
def State.emitAtOnce (t : Ticket) (h : HeadNo) (reason : Option Reason) (s : State) : State :=
  let d := emittedTicket t h reason s.summary
  (s.countEmitted d).offerTicket d

/-! ## Fault accounting -/

/-- Disable a head for its fault run (R97, R138). -/
def State.disableHead (h : HeadNo) (s : State) : State :=
  (s.onHead h fun hd => { hd with entry := { hd.entry with enabled := false } }).raise .headDisabled

/-- The accounting of the head's consecutive-fault count, by the three cases of R137. -/
def State.accountRun (h : HeadNo) (faulty : Bool) (s : State) : State :=
  let n := (s.head h).faults
  if s.report.faultLimit ≤ n then s.disableHead h
  else if faulty then
    let t := s.onHead h fun hd => { hd with faults := n + 1 }
    if n + 1 = s.report.faultLimit then t.disableHead h else t
  else s.onHead h fun hd => { hd with faults := 0 }

/-- The fault accounting at a discharge: step 1 of R131 (R137). -/
def State.faultAccounting (h : HeadNo) (reasons : List Reason) (s : State) : State :=
  let faulty := faultyCycle reasons
  (if faulty then s.bumpHead h HeadCounters.bumpFaults else s).accountRun h faulty

/-! ## The discharge event -/

/-- The head drops its context and is IDLE; the halt hold goes with the context (R91). -/
def Head.dropContext (hd : Head) : Head := { hd with state := .idle, ctx := none, haltHold := false }

/-- What the verdict unit does with a context it is handed (R131): fault accounting, then the ticket with the summary as it
stands then, then the count, then the offer. -/
def State.reportCan (h : HeadNo) (c : Context) (s : State) : State :=
  let s := s.faultAccounting h c.reasons
  let t := c.ticket h s.summary
  (s.countDischarged t).offerTicket t

/-- The discharge event at a head: it acts in LIFTED (R74, R91), and the drain check follows once the head is IDLE (R149). -/
def dischargeEvent (h : HeadNo) (s : State) : State :=
  match (s.head h).state, (s.head h).ctx with
  | .lifted, some c => ((s.reportCan h c).onHead h Head.dropContext).drainCheck
  | _, _ => s

end Sys2Proof.Machine
end

