-- ==== Sys2Proof/Machine/Measure.lean ====
section
/-! DEFINITION. The measurement unit (chapter 6): bell readings, the peak, the over-pressure comparator, the seal watch,
crimp force qualification and the crimp gauge. -/

namespace Sys2Proof.Machine

/-- A sum brought into 0..top. -/
def clampTo (top : Nat) (i : Int) : Nat := (max 0 (min (top : Int) i)).toNat

/-- The bell reading of a raw sample: the head's offset added, kept in 0..1500 (R101). -/
def bellReading (e : HeadEntry) (raw : Int) : Nat := clampTo 1500 (raw + e.bellOffset)

/-- The head states in which a reading raises the peak (R102). -/
def HeadState.tracksPeak : HeadState → Bool
  | .gassing | .settling | .crimping | .crimped | .venting => true
  | .idle | .bound | .sealed | .lifted => false

/-- A reading raises the peak of a context whose gassing began (R102). -/
def Head.raisePeak (hd : Head) : Head :=
  if hd.state.tracksPeak then
    { hd with ctx := hd.ctx.map fun c => { c with peak := c.peak.map (max hd.reading) } }
  else hd

/-- The over-pressure comparator tests the current reading while it is armed; a trip disarms it and is sent to the
sequencer (R104). -/
def Head.testComparator (hd : Head) : Head :=
  match hd.comparator with
  | some level =>
    if level ≤ hd.reading then
      { hd with comparator := none, inbox := { hd.inbox with trips := hd.inbox.trips + 1 } }
    else hd
  | none => hd

/-- The seal watch tests the current reading while it is on; reaching the level turns it off and sends the report (R106). -/
def Head.testSealWatch (hd : Head) : Head :=
  match hd.sealWatch with
  | some level =>
    if level ≤ hd.reading then
      { hd with sealWatch := none, inbox := { hd.inbox with sealReports := hd.inbox.sealReports + 1 } }
    else hd
  | none => hd

/-- A bell sample at a head (R101). -/
def Head.bellSample (raw : Int) (hd : Head) : Head :=
  ({ hd with reading := bellReading hd.entry raw }).raisePeak.testComparator.testSealWatch

/-- A gassing begins: arm the comparator at L × 100 kPa and set the seal watch; the peak is set in the context (R103). -/
def Head.armGassing (g : GasHalf) (hd : Head) : Head :=
  { hd with comparator := some (g.overStep * 100), sealWatch := some g.sealLevel }

/-- A gassing ends: disarm the comparator and turn the seal watch off (R105). -/
def Head.disarm (hd : Head) : Head := { hd with comparator := none, sealWatch := none }

/-- Begin force qualification with the recipe's threshold and the Nq in force (R108). -/
def Head.beginQualification (threshold nq : Nat) (hd : Head) : Head :=
  { hd with qualification := some ⟨threshold, nq⟩, runCount := 0, qualified := false }

/-- End force qualification; the mark stands as it was reported (R110). -/
def Head.endQualification (hd : Head) : Head := { hd with qualification := none, runCount := 0 }

/-- A crimp-force sample at a head (R109). -/
def Head.forceSample (newtons : Int) (hd : Head) : Head :=
  match hd.qualification with
  | none => hd
  | some q =>
    if hd.qualified then hd
    else if (q.threshold : Int) ≤ newtons then
      { hd with runCount := hd.runCount + 1, qualified := hd.runCount + 1 == q.runLength }
    else { hd with runCount := 0 }

/-- The gauge's two values with the head's offsets, kept in 0..9999, and the qualified mark (R110, R112). -/
def Head.crimpResult (gauge : Gauge) (hd : Head) : CrimpResult where
  depth := clampTo 9999 (gauge.depth + hd.entry.depthOffset)
  diameter := clampTo 9999 (gauge.diameter + hd.entry.diameterOffset)
  qualified := hd.qualified

/-- The reasons a crimp that ran its dwell earns (R86, R113). -/
def crimpReasons (cam : CamHalf) (r : CrimpResult) (rs : List Reason) : List Reason :=
  addReasonIf (!r.qualified) .crimpForce
    (addReasonIf (decide (r.diameter < cam.diameterMin) || decide (cam.diameterMax < r.diameter)) .crimpDiameter
      (addReasonIf (decide (r.depth < cam.depthMin) || decide (cam.depthMax < r.depth)) .crimpDepth rs))

/-- BELL_PRESSURE_SAMPLE (R101). -/
def execBellPressureSample (dt : Nat) (h : HeadNo) (raw : Int) (s : State) : Host.Outcome State Fault Refusal :=
  .next ((s.elapse dt).onHead h (Head.bellSample raw))

/-- CRIMP_FORCE_SAMPLE (R109). -/
def execCrimpForceSample (dt : Nat) (h : HeadNo) (newtons : Int) (s : State) : Host.Outcome State Fault Refusal :=
  .next ((s.elapse dt).onHead h (Head.forceSample newtons))

end Sys2Proof.Machine
end

