-- ==== Sys2Proof/Machine/Sequencer.lean ====
section
/-! DEFINITION. The head sequencers (chapter 5): what each phase event, timer expiry and message does to a head. A transition
sets the head's outputs as part of it (R73); an event that does not act in the head's state leaves the head as it was (R74). -/

namespace Sys2Proof.Machine

/-- The seven phase events (section 1.3). -/
inductive PhaseEvent where
  | sealing
  | gasStart
  | gasEnd
  | crimp
  | vent
  | lift
  | discharge
  deriving DecidableEq, Repr

/-- The elapsed gas command time of a context at a moment (R68, R165). -/
def Context.gasElapsed (now : Nat) (c : Context) : Nat :=
  match c.start with
  | some g => now - g.openedAt
  | none => 0

/-- The seal event, in BOUND (R75). -/
def Head.onSeal (hd : Head) : Head :=
  match hd.state with
  | .bound => { hd with clamp := true, state := .sealed }
  | _ => hd

/-- A gas start that opens no valve: the head settles with its reason (R76, cases 1 and 2). -/
def Head.skipGas (reason : Reason) (c : Context) (hd : Head) : Head :=
  { hd with state := .settling, ctx := some { c with reasons := addReason reason c.reasons } }

/-- The informational flags after a gas start (R64, R65, R76). -/
def InfoFlags.atGasStart (limited short dip : Bool) (f : InfoFlags) : InfoFlags :=
  { f with
    doseLimited := f.doseLimited || limited
    windowShort := f.windowShort || short
    supplyDip := f.supplyDip || dip }

/-- The gassing begins (R76, case 3): the figures and flags are in the context, the peak starts at 0, the comparator and the
seal watch are armed, the valve opens and both timers start. -/
def Head.beginGassing (now : Nat) (figures : GasStart) (flags : InfoFlags) (c : Context) (hd : Head) : Head :=
  let hd := hd.armGassing c.gas
  { hd with
    state := .gassing
    ctx := some { c with start := some figures, flags := flags, peak := some 0 }
    sealReached := false
    gasValve := true
    commandTimer := some (now + figures.command)
    sealTimer := some (now + c.gas.sealTime * 1000) }

/-- The gas-start event at a head, in SEALED, with its three outcomes in order (R76). -/
def gasStartEvent (h : HeadNo) (s : State) : State :=
  match (s.head h).state, (s.head h).ctx with
  | .sealed, some c =>
    if s.mode ≠ .run ∧ s.mode ≠ .drain then s.onHead h (Head.skipGas .aborted c)
    else if s.supply.state = .low then s.onHead h (Head.skipGas .supplyLow c)
    else
      let valve := s.valves[(s.head h).entry.valveClass]
      let flow := flowAt s.supply.flow s.supply.pm
      let figures := gasStartFigures s.now c.dose c.gas.tMax c.cam flow valve
      let limited := doseLimited c.dose flow valve.lagOpen valve.lagClose c.gas.tMax
      let short := windowShort c.cam s.tracker.pitch s.tracker.pValid figures.command
      s.onHead h (Head.beginGassing s.now figures
        (c.flags.atGasStart limited short (decide (s.supply.state = .dip))) c)
  | _, _ => s

/-- End the gassing of a head, by a cause and with its elapsed command time; the head settles (R77). -/
def Head.stopGas (cause : GasEndCause) (elapsed : Nat) (c : Context) (hd : Head) : Head :=
  { hd.disarm with
    gasValve := false
    commandTimer := none
    sealTimer := none
    ctx := some (c.endGassing cause elapsed)
    state := .settling }

/-- End the gassing by a cause taken at a moment, if the head is in GASSING (R77). -/
def Head.endGassing (cause : GasEndCause) (now : Nat) (hd : Head) : Head :=
  match hd.state, hd.ctx with
  | .gassing, some c => hd.stopGas cause (c.gasElapsed now) c
  | _, _ => hd

/-- The command timer's expiry, in GASSING: cause DOSED, with t_el equal to t_cmd (R78). -/
def Head.onCommandExpiry (hd : Head) : Head :=
  match hd.state, hd.ctx, hd.commandTimer with
  | .gassing, some c, some _ => hd.stopGas .dosed ((c.start.map (·.command)).getD 0) c
  | _, _, _ => hd

/-- The seal-check timer's expiry, in GASSING: the mark clear ends the gassing NO_SEAL, the mark set changes nothing but
that the timer has run out (R80). -/
def Head.onSealExpiry (now : Nat) (hd : Head) : Head :=
  match hd.state, hd.sealTimer with
  | .gassing, some _ => if hd.sealReached then { hd with sealTimer := none } else hd.endGassing .noSeal now
  | _, _ => hd

/-- The seal-level report, in GASSING (R80). -/
def Head.onSealReport (hd : Head) : Head :=
  match hd.state with
  | .gassing => { hd with sealReached := true }
  | _ => hd

/-- The crimp-angle event, in SETTLING (R85). -/
def Head.onCrimp (now nq : Nat) (hd : Head) : Head :=
  match hd.state, hd.ctx with
  | .settling, some c =>
    let outside := decide (hd.reading < c.gas.settleMin) || decide (c.gas.settleMax < hd.reading)
    let c := { c with
      settle := some hd.reading
      reasons := addReasonIf (c.start.isSome && outside) .settleRange c.reasons }
    { hd.beginQualification c.cam.force nq with
      ctx := some c
      collet := true
      dwellTimer := some (now + c.cam.dwell * 1000)
      state := .crimping }
  | _, _ => hd

/-- The collet goes off, the dwell timer is idle and force qualification ends (R86, R87, R110). -/
def Head.releaseCollet (hd : Head) : Head := { hd.endQualification with collet := false, dwellTimer := none }

/-- The head vents with the vent held on (R88, R92, R93). The clamp keeps the value it had. -/
def Head.holdVent (c : Context) (hd : Head) : Head :=
  { hd with state := .venting, ctx := some c, ventValve := true, ventMode := .held, ventTimer := none }

/-- The head begins its vent, pulsing or held by the recipe's pulse count (R88). -/
def Head.beginVent (now : Nat) (c : Context) (hd : Head) : Head :=
  if c.cam.pulses = 0 then hd.holdVent c
  else
    { hd with
      state := .venting, ctx := some c, ventValve := true
      ventMode := .pulsing c.cam.pulses true
      ventTimer := some (now + c.cam.ventOn * 1000) }

/-- The dwell timer's expiry, in CRIMPING (R86, R93). -/
def Head.onDwellExpiry (gauge : Gauge) (hd : Head) : Head :=
  match hd.state, hd.ctx, hd.dwellTimer with
  | .crimping, some c, some _ =>
    let r := hd.crimpResult gauge
    let c := { c with crimp := some r, reasons := crimpReasons c.cam r c.reasons }
    if hd.haltHold then hd.releaseCollet.holdVent c
    else { hd.releaseCollet with ctx := some c, state := .crimped }
  | _, _, _ => hd

/-- The vent-angle event, in CRIMPED (R88) or in CRIMPING, where it cuts the crimp short (R87, R93). -/
def Head.onVent (now : Nat) (gauge : Gauge) (hd : Head) : Head :=
  match hd.state, hd.ctx with
  | .crimped, some c => hd.beginVent now c
  | .crimping, some c =>
    let c := { c with crimp := some (hd.crimpResult gauge), reasons := addReason .crimpShort c.reasons }
    if hd.haltHold then hd.releaseCollet.holdVent c else hd.releaseCollet.beginVent now c
  | _, _ => hd

/-- The vent pulse timer's expiry, in VENTING with the vent pulsing (R89). -/
def Head.onVentExpiry (now : Nat) (hd : Head) : Head :=
  match hd.state, hd.ctx, hd.ventMode, hd.ventTimer with
  | .venting, some c, .pulsing left true, some _ =>
    { hd with
      ventValve := false, ventMode := .pulsing left false
      ventTimer := some (now + (c.cam.ventPeriod - c.cam.ventOn) * 1000) }
  | .venting, some c, .pulsing left false, some _ =>
    if 1 < left then
      { hd with
        ventValve := true, ventMode := .pulsing (left - 1) true
        ventTimer := some (now + c.cam.ventOn * 1000) }
    else { hd with ventValve := true, ventMode := .held, ventTimer := none }
  | _, _, _, _ => hd

/-- The lift-angle event, in VENTING (R90). -/
def Head.onLift (hd : Head) : Head :=
  match hd.state, hd.ctx with
  | .venting, some c =>
    { hd with
      ctx := some { c with reasons := addReasonIf (decide (c.cam.ventClear < hd.reading)) .ventIncomplete c.reasons }
      ventValve := false, ventMode := .off, ventTimer := none
      clamp := false
      state := .lifted }
  | _, _ => hd

/-- ABORTED is added to a context's reasons (R92). -/
def Context.abort (c : Context) : Context := { c with reasons := addReason .aborted c.reasons }

/-- HALT taken at a head, by the table of R92. -/
def Head.onHalt (now : Nat) (hd : Head) : Head :=
  match hd.state, hd.ctx with
  | .bound, some c | .sealed, some c | .settling, some c | .crimped, some c | .venting, some c => hd.holdVent c.abort
  | .gassing, some c =>
    (hd.stopGas .aborted (c.gasElapsed now) c).holdVent (c.endGassing .aborted (c.gasElapsed now))
  | .crimping, some c => { hd with ctx := some c.abort, haltHold := true }
  | _, _ => hd

/-- The reset vent timer's expiry (R99). -/
def Head.onResetVentExpiry (hd : Head) : Head :=
  match hd.resetVentTimer with
  | some _ => { hd with ventValve := false, resetVentTimer := none }
  | none => hd

/-- A context is bound into a head: the reset vent ends and all four outputs are off (R28, R31, R99). -/
def Head.bind (c : Context) (hd : Head) : Head :=
  { hd with
    state := .bound, ctx := some c
    clamp := false, gasValve := false, ventValve := false, collet := false
    ventMode := .off, resetVentTimer := none
    haltHold := false }

/-- The phase event that a context's recipe copy and the discharge angle give at a relative angle (R10). -/
def phaseAt (aDis : Nat) (cam : CamHalf) (a : Nat) : Option PhaseEvent :=
  if a = cam.sealAngle then some .sealing
  else if a = cam.gasStart then some .gasStart
  else if a = cam.gasEnd then some .gasEnd
  else if a = cam.crimp then some .crimp
  else if a = cam.vent then some .vent
  else if a = cam.lift then some .lift
  else if a = aDis then some .discharge
  else none

/-- A phase event reaches a head's sequencer; `gauge` is what its crimp gauge delivers if it is read. -/
def takePhase (h : HeadNo) (gauge : Gauge) (e : PhaseEvent) (s : State) : State :=
  match e with
  | .sealing => s.onHead h Head.onSeal
  | .gasStart => gasStartEvent h s
  | .gasEnd => s.onHead h (Head.endGassing .windowCut s.now)
  | .crimp => s.onHead h (Head.onCrimp s.now s.nq)
  | .vent => s.onHead h (Head.onVent s.now gauge)
  | .lift => s.onHead h Head.onLift
  | .discharge => dischargeEvent h s

/-! ## The commands taken at a head -/

/-- A head takes one of its messages in flight (log entry 5). -/
def Head.takeTrip (hd : Head) : Head := { hd with inbox := { hd.inbox with trips := hd.inbox.trips - 1 } }
def Head.takeReport (hd : Head) : Head := { hd with inbox := { hd.inbox with sealReports := hd.inbox.sealReports - 1 } }
def Head.takeLow (hd : Head) : Head := { hd with inbox := { hd.inbox with lows := hd.inbox.lows - 1 } }
def Head.takeHaltMessage (hd : Head) : Head := { hd with inbox := { hd.inbox with halts := hd.inbox.halts - 1 } }

/-- OVERPRESSURE_TRIP (R79). -/
def execOverpressureTrip (dt : Nat) (h : HeadNo) (s : State) : Host.Outcome State Fault Refusal :=
  .next ((s.elapse dt).onHead h fun hd => hd.takeTrip.endGassing .overpressure (s.now + dt))

/-- SEAL_LEVEL_REPORT (R80). -/
def execSealLevelReport (dt : Nat) (h : HeadNo) (s : State) : Host.Outcome State Fault Refusal :=
  .next ((s.elapse dt).onHead h fun hd => hd.takeReport.onSealReport)

/-- COMMAND_TIMER_EXPIRY (R78). -/
def execCommandTimerExpiry (dt : Nat) (h : HeadNo) (s : State) : Host.Outcome State Fault Refusal :=
  .next ((s.elapse dt).onHead h Head.onCommandExpiry)

/-- SEAL_CHECK_TIMER_EXPIRY (R80). -/
def execSealCheckTimerExpiry (dt : Nat) (h : HeadNo) (s : State) : Host.Outcome State Fault Refusal :=
  .next ((s.elapse dt).onHead h (Head.onSealExpiry (s.now + dt)))

/-- DWELL_TIMER_EXPIRY (R86). -/
def execDwellTimerExpiry (dt : Nat) (h : HeadNo) (gauge : Gauge) (s : State) : Host.Outcome State Fault Refusal :=
  .next ((s.elapse dt).onHead h (Head.onDwellExpiry gauge))

/-- VENT_PULSE_TIMER_EXPIRY (R89). -/
def execVentPulseTimerExpiry (dt : Nat) (h : HeadNo) (s : State) : Host.Outcome State Fault Refusal :=
  .next ((s.elapse dt).onHead h (Head.onVentExpiry (s.now + dt)))

/-- RESET_VENT_TIMER_EXPIRY (R99). -/
def execResetVentTimerExpiry (dt : Nat) (h : HeadNo) (s : State) : Host.Outcome State Fault Refusal :=
  .next ((s.elapse dt).onHead h Head.onResetVentExpiry)

/-- LOW_EVENT (R82). -/
def execLowEvent (dt : Nat) (h : HeadNo) (s : State) : Host.Outcome State Fault Refusal :=
  .next ((s.elapse dt).onHead h fun hd => hd.takeLow.endGassing .supplyLow (s.now + dt))

/-- HEAD_HALT (R92). -/
def execHeadHalt (dt : Nat) (h : HeadNo) (s : State) : Host.Outcome State Fault Refusal :=
  .next ((s.elapse dt).onHead h fun hd => hd.takeHaltMessage.onHalt (s.now + dt))

end Sys2Proof.Machine
end

