-- ==== Sys2Proof/Machine/Infeed.lean ====
section
/-! DEFINITION. The infeed unit (chapter 2): taking tickets, sensing the can, and the pitch mark at the infeed. -/

namespace Sys2Proof.Machine

/-- Put the infeed unit's state back. -/
def State.setInfeed (u : Infeed) (s : State) : State := { s with infeed := u }

/-- A serial stands in the infeed queue or in a can context (R21). -/
def State.serialInUse (n : Nat) (s : State) : Bool :=
  s.infeed.queue.any (fun t => t.serial == n)
    || s.heads.toList.any fun hd => hd.ctx.any fun c => c.serial == n

/-- The infeed unit takes a well-formed ticket: the duplicate check, then the full-queue check (R21, R22). -/
def State.acceptTicket (t : Ticket) (s : State) : State :=
  if s.serialInUse t.serial then (s.bumpPart PartCounters.bumpDuplicates).raise .duplicateTicket
  else if s.infeed.queue.length < 8 then s.setInfeed { s.infeed with queue := s.infeed.queue ++ [t] }
  else (s.bumpPart PartCounters.bumpOverruns).raise .infeedOverrun

/-- The infeed unit takes a ticket (R19). -/
def State.takeTicket (ticketFlags : Byte) (payload : List Byte) (s : State) : State :=
  match ticketOf ticketFlags payload with
  | none => s.bumpPart PartCounters.bumpMalformed
  | some t => s.acceptTicket t

/-! ## Binding -/

/-- The context a ticket is bound into, by the tracked column of the table in section 2.5 (R28). -/
def trackedContext (t : Ticket) (r : Recipe) (version : Nat) : Context where
  serial := t.serial
  product := t.product
  fill := t.fill
  temp := t.temp
  suspect := t.suspect
  gas := r.gas
  cam := r.cam
  version := version
  dose := committedDose r.gas t.fill t.temp t.suspect
  flags := { InfoFlags.clear with doseClamped := doseClamped r.gas t.fill t.temp t.suspect }
  reasons := []
  start := none
  finish := none
  peak := none
  settle := none
  crimp := none

/-- The context of an untracked can, by the untracked column of the table in section 2.5 (R31): a ticket with the untracked
serial and nothing known of the can, and the reason UNTRACKED. -/
def untrackedContext (product : SlotNo) (r : Recipe) (version : Nat) : Context :=
  { trackedContext ⟨Config.untrackedSerial, product, none, none, false⟩ r version with reasons := [.untracked] }

/-- Bind a ticket into a head: the context, BOUND, and the running product (R28, R29). -/
def State.bindTicket (h : HeadNo) (t : Ticket) (r : Recipe) (s : State) : State :=
  (s.onHead h (Head.bind (trackedContext t r (s.slot t.product).version))).setInfeed
    { s.infeed with running := some t.product }

/-- An untracked can is counted and flagged, bound or not (R34, R35). -/
def State.countUntracked (s : State) : State :=
  (s.bumpPart PartCounters.bumpUntracked).raise .untrackedCan

/-- An untracked can at an IDLE head in RUN: bound on the running product's recipe, or unprocessed (R31). -/
def State.untrackedCan (h : HeadNo) (s : State) : State :=
  let s := s.countUntracked
  if (s.head h).entry.enabled then
    match s.infeed.running with
    | none => s
    | some p =>
      match (s.slot p).live with
      | none => s
      | some r => s.onHead h (Head.bind (untrackedContext p r (s.slot p).version))
  else s

/-- A ticket with its can at an IDLE head in RUN, already removed from the queue: the three outcomes in order (R27). -/
def State.dealTicket (h : HeadNo) (t : Ticket) (s : State) : State :=
  if (s.head h).entry.enabled then
    match (s.slot t.product).live with
    | none => s.emitAtOnce t h (some .noRecipe)
    | some r => s.bindTicket h t r
  else s.emitAtOnce t h (some .headDisabled)

/-- The pitch mark at the infeed, once promotion has been made; `high` is the sensor input's level (R25 to R27, R30 to
R32). -/
def State.infeedPitch (h : HeadNo) (high : Bool) (s : State) : State :=
  let can := s.infeed.latch || high
  let s := s.setInfeed { s.infeed with latch := false }
  if (s.head h).state = .idle then
    match s.infeed.queue with
    | t :: rest =>
      let s := s.setInfeed { s.infeed with queue := rest }
      if can then
        if s.mode = .run then s.dealTicket h t else s.emitAtOnce t h (some .notRunning)
      else s.emitAtOnce t h none
    | [] =>
      if can then
        if s.mode = .run then s.untrackedCan h else s.countUntracked
      else s
  else s.bumpPart PartCounters.bumpHeadBusy

/-! ## The commands of the infeed unit -/

/-- CAN_PRESENT_EDGE (R24). -/
def execCanPresentEdge (dt : Nat) (s : State) : Host.Outcome State Fault Refusal :=
  .next ((s.elapse dt).setInfeed { s.infeed with latch := true })

/-- The ticket that arrived first of those in hand is taken from hand (log entry 6). -/
def State.dropTicketInHand (s : State) : State :=
  { s with ticketsInHand := s.ticketsInHand.tail }

/-- INFEED_TICKET (R19 to R22). A part without an own address receives no tickets (R156). Tickets are taken in the order they
arrived, so none is taken while one that arrived before it is in hand (R22, log entry 6). -/
def execInfeedTicket (dt : Nat) (ticketFlags : Byte) (payload : List Byte) (s : State) :
    Host.Outcome State Fault Refusal :=
  if s.ring.own.isSome ∧ inTurn (ticketFlags, payload) s.ticketsInHand then
    .next ((s.elapse dt).dropTicketInHand.takeTicket ticketFlags payload)
  else .next (s.elapse dt)

end Sys2Proof.Machine
end

