-- ==== Sys2Proof/Machine/TurretTracker.lean ====
section
/-! DEFINITION. The turret tracker (chapter 1): the turret count, the pitch timer, and the delivery of pitch marks and phase
events at each forward crossing. -/

namespace Sys2Proof.Machine

/-- Put the tracker back. -/
def State.setTracker (t : Tracker) (s : State) : State := { s with tracker := t }

/-- The relative angle of a head at a turret count (R9). -/
def relativeAngle (count : Nat) (h : HeadNo) : Nat := (count + 6144 - 256 * h.val) % 6144

/-- The pitch time measured at a forward pitch mark (R13, R14). -/
def PitchTimer.measure (now pitch : Nat) : PitchTimer → Nat
  | .idle => pitch
  | .running since => min (now - since) Config.pitchSaturation
  | .saturated => Config.pitchSaturation

/-- The tracker takes the pitch timer at a forward pitch mark (R13). -/
def Tracker.pitchMark (now : Nat) (t : Tracker) : Tracker :=
  let marks := if t.marksSeen < 2 then t.marksSeen + 1 else t.marksSeen
  { t with
    pitch := t.pitchTimer.measure now t.pitch
    pitchTimer := .running now
    marksSeen := marks
    pValid := t.pValid || (decide (t.marksSeen < 2) && marks == 2) }

/-- A pitch mark promotes in RUN and DRAIN; in STANDBY and HALT it finds nothing to promote (R48, R49). -/
def State.promoteAtPitch (s : State) : State :=
  if s.mode = .run ∨ s.mode = .drain then s.promoteAll else s

/-- The pitch mark for head h: P is timed, the recipe table promotes, and the infeed unit decides (R12, R13, R48). -/
def State.pitchMark (h : HeadNo) (high : Bool) (s : State) : State :=
  ((s.setTracker (s.tracker.pitchMark s.now)).promoteAtPitch).infeedPitch h high

/-- The phase event that a crossing onto the present count delivers to a head, if any: none to a head without a context
(R10). -/
def State.phaseFor (h : HeadNo) (s : State) : Option PhaseEvent :=
  (s.head h).ctx.bind fun c => phaseAt s.tracker.aDis c.cam (relativeAngle s.tracker.count h)

/-- Deliver one of the events of the crossing onto the present count, if the crossing has it (R10, R12). -/
def deliver (lines : Lines) (s : State) : Arrival → State
  | .pitchMark =>
    if s.tracker.count % 256 = 0 then s.pitchMark (Fin.ofNat 24 (s.tracker.count / 256)) lines.sensorHigh else s
  | .phase h =>
    match s.phaseFor h with
    | some e => takePhase h lines.gauges[h] e s
    | none => s

/-- Every event one crossing can deliver, in the order taken where the sender names no other (log entry 3). -/
def allArrivals : List Arrival := .pitchMark :: (List.finRange 24).map .phase

/-- Keep the first of each in a list. -/
def firsts : List Arrival → List Arrival
  | [] => []
  | a :: as => a :: (firsts as).filter (fun b => decide (b ≠ a))

/-- The order in which the events of one crossing are taken: those the sender names first, in its order, then the others
(R11, log entry 3). Every event stands in it once, whatever the sender names. -/
def schedule (order : List Arrival) : List Arrival := firsts (order ++ allArrivals)

/-- Deliver all events of the crossing onto the present count (R11). -/
def deliverAll (lines : Lines) (order : List Arrival) (s : State) : State :=
  (schedule order).foldl (deliver lines) s

/-- A forward crossing onto count c, not suppressed (R2). -/
def crossOnto (c : Nat) (lines : Lines) (order : List Arrival) (s : State) : State :=
  deliverAll lines order (s.setTracker { s.tracker with count := c })

/-- A forward edge: the count, the direction, and the crossing unless the correction hold suppresses it (R2, R7). -/
def State.forwardEdge (lines : Lines) (order : List Arrival) (s : State) : State :=
  let c := (s.tracker.count + 1) % 6144
  if 1 ≤ c ∧ c ≤ s.tracker.hold then
    s.setTracker { s.tracker with
      count := c, direction := .forward, hold := if c = s.tracker.hold then 0 else s.tracker.hold }
  else crossOnto c lines order (s.setTracker { s.tracker with direction := .forward })

/-- A reverse edge (R3). -/
def State.reverseEdge (s : State) : State :=
  (s.setTracker { s.tracker with
    count := (s.tracker.count + 6143) % 6144, direction := .reverse, hold := 0 }).takeHalt .reverse

/-- The index mark: it confirms the count (R4), makes a forward correction (R5) or a backward one (R6), or finds an encoder
slip (R8). -/
def State.indexMark (lines : Lines) (order6143 order0 : List Arrival) (s : State) : State :=
  let t := s.tracker
  if t.count = 0 then s
  else if t.count = 6142 ∨ t.count = 6143 then
    if t.direction = .forward then
      let s := if t.count = 6142 then crossOnto 6143 lines order6143 s else s
      crossOnto 0 lines order0 s
    else s.setTracker { t with count := 0 }
  else if t.count = 1 ∨ t.count = 2 then
    s.setTracker { t with
      count := 0, hold := if t.direction = .forward then max t.hold t.count else t.hold }
  else (s.setTracker { t with count := 0, hold := 0 }).takeHalt .encoderSlip

/-- The pitch timer reaches saturation (R14). -/
def Tracker.saturate (t : Tracker) : Tracker :=
  match t.pitchTimer with
  | .running _ => { t with pitch := Config.pitchSaturation, pitchTimer := .saturated }
  | .idle | .saturated => t

/-- FORWARD_EDGE (R2). -/
def execForwardEdge (dt : Nat) (lines : Lines) (order : List Arrival) (s : State) :
    Host.Outcome State Fault Refusal :=
  .next ((s.elapse dt).forwardEdge lines order)

/-- REVERSE_EDGE (R3). -/
def execReverseEdge (dt : Nat) (s : State) : Host.Outcome State Fault Refusal :=
  .next (s.elapse dt).reverseEdge

/-- INDEX_MARK (R4 to R8). -/
def execIndexMark (dt : Nat) (lines : Lines) (order6143 order0 : List Arrival) (s : State) :
    Host.Outcome State Fault Refusal :=
  .next ((s.elapse dt).indexMark lines order6143 order0)

/-- PITCH_TIMER_SATURATION (R14). -/
def execPitchTimerSaturation (dt : Nat) (s : State) : Host.Outcome State Fault Refusal :=
  .next ((s.elapse dt).setTracker s.tracker.saturate)

end Sys2Proof.Machine
end

