-- ==== Sys2Proof/Machine/Management.lean ====
section
/-! DEFINITION. The management unit (chapter 11): how a request is dealt with by the block that owns its state, and the reply
it gets. Every request command is one dealing under the shared taking of a request (R162). -/

namespace Sys2Proof.Machine

/-- A request dealt with: the state after it, its result, and the data section of its reply. -/
structure Dealt where
  state : State
  result : Result
  data : List Byte

/-- A request refused, or one that only reads: nothing changed (R162). -/
def unchanged (s : State) (r : Result) (data : List Byte := []) : Dealt := ⟨s, r, data⟩

/-! ## STATUS, MODE, RESTART -/

/-- The 20 fixed bytes and the 16 slot records of a STATUS reply (R161, R163). The bits that R161 leaves undefined in the
P-valid byte (2 to 7), in the two sets (11 to 15) and in the store byte (1 to 3) are sent as 0: DESIGN CHOICE, log entry 20. -/
def State.statusData (s : State) : List Byte :=
  bytesOf 1 s.mode.code ++ bytesOf 1 s.haltCause.code
  ++ bytesOf 1 (match s.supply.state with | .normal => 0 | .dip => 1 | .low => 2)
  ++ bytesOf 2 s.supply.pm ++ bytesOf 3 s.tracker.pitch
  ++ bytesOf 1 (bit s.tracker.pValid + 2 * bit (decide (s.tracker.direction = .reverse)))
  ++ bytesOf 2 s.tracker.count
  ++ bytesOf 1 s.infeed.queue.length ++ bytesOf 1 s.ring.relay.length ++ bytesOf 1 s.ring.origin.length
  ++ bytesOf 2 s.report.flags.toNat ++ bytesOf 2 s.report.mask.toNat
  ++ bytesOf 1 (bit s.store.op.isSome + 16 * s.store.marks.toNat)
  ++ bytesOf 1 ((s.infeed.running.map (·.val)).getD 255)
  ++ s.recipes.toList.flatMap Slot.record

/-- STATUS is answered DONE and changes nothing (R163). -/
def dealStatus (s : State) : Dealt := unchanged s .done s.statusData

/-- A MODE request (R145). -/
def dealMode (target : ModeTarget) (s : State) : Dealt :=
  let (t, r) := s.takeMode target
  ⟨t, r, t.modeData⟩

/-- RESTART: in STANDBY the whole part is reset, with the own address read afresh from the pins (R152, R160). -/
def dealRestart (pins : BitVec 5) (s : State) : Dealt :=
  if s.mode = .standby then ⟨s.resetPart pins, .done, []⟩ else unchanged s .wrongMode

/-! ## Recipes -/

/-- The slot of a product argument, or none above 15 (R162, check 3). -/
def slotNo (product : Nat) : Option SlotNo := if h : product < 16 then some ⟨product, h⟩ else none

/-- Put a pending entry into a slot and answer DONE with the slot record as it then stands (R42). -/
def dealPending (p : SlotNo) (pend : Pending) (s : State) : Dealt :=
  let t := s.setPending p pend
  ⟨t, .done, (t.slot p).record⟩

/-- RECIPE-GAS (R40, R43). -/
def dealRecipeGas (product : Nat) (g : GasHalf) (s : State) : Dealt :=
  match slotNo product with
  | some p => if gasValid g then dealPending p ((s.slot p).pending.withGas g) s else unchanged s .badField
  | none => unchanged s .badField

/-- RECIPE-CAM (R41, R44). -/
def dealRecipeCam (product : Nat) (c : CamHalf) (s : State) : Dealt :=
  match slotNo product with
  | some p =>
    if camValid c s.tracker.aDis then dealPending p ((s.slot p).pending.withCam c) s else unchanged s .badField
  | none => unchanged s .badField

/-- RECIPE-DROP (R45). -/
def dealRecipeDrop (product : Nat) (s : State) : Dealt :=
  match slotNo product with
  | some p => dealPending p .none s
  | none => unchanged s .badField

/-- RECIPE-CLEAR (R46). -/
def dealRecipeClear (product : Nat) (s : State) : Dealt :=
  match slotNo product with
  | some p =>
    if (s.slot p).live.isNone ∧ (s.slot p).pending = .none then unchanged s .empty
    else dealPending p .removal s
  | none => unchanged s .badField

/-- The named half of the named source, in its request layout, if it is held (R54). -/
def heldHalf (sl : Slot) (source half : Nat) : Option (List Byte) :=
  match source, half with
  | 0, 0 => sl.live.map fun r => gasBytes r.gas
  | 0, _ => sl.live.map fun r => camBytes r.cam
  | _, 0 => sl.pending.gas.map gasBytes
  | _, _ => sl.pending.cam.map camBytes

/-- RECIPE-READ (R54). -/
def dealRecipeRead (product source half : Nat) (s : State) : Dealt :=
  match slotNo product with
  | some p =>
    if source ≤ 1 ∧ half ≤ 1 then
      match heldHalf (s.slot p) source half with
      | some bytes => unchanged s .done ((s.slot p).record ++ bytes)
      | none => unchanged s .empty (s.slot p).record
    else unchanged s .badField
  | none => unchanged s .badField

/-! ## Heads -/

/-- The head of a head argument, or none above 23 (R162, check 3). -/
def headNo (head : Nat) : Option HeadNo := if h : head < 24 then some ⟨head, h⟩ else none

/-- A HEAD-WRITE that passes its checks (R96). -/
def Head.write (e : HeadEntry) (resetCount : Bool) (hd : Head) : Head :=
  { hd with entry := e, faults := if resetCount then 0 else hd.faults, snapshot := none }

/-- HEAD-WRITE (R96). -/
def dealHeadWrite (head : Nat) (resetCount : Bool) (f : HeadFields) (s : State) : Dealt :=
  match headNo head, headEntryOf f with
  | some h, some e =>
    if e.enabled = true ∧ resetCount = false ∧ s.report.faultLimit ≤ (s.head h).faults then unchanged s .badField
    else ⟨s.onHead h (Head.write e resetCount), .done, []⟩
  | _, _ => unchanged s .badField

/-- The store entry of a HEAD-READ reply: 0 and six zero bytes for a blank one, else 1 and the entry (R161, log entry 8). -/
def storeEntryBytes : Option HeadEntry → List Byte
  | none => bytesOf 7 0
  | some e => 1 :: e.bytes

/-- HEAD-READ (R164). -/
def dealHeadRead (head : Nat) (s : State) : Dealt :=
  match headNo head with
  | some h =>
    unchanged s .done ((s.head h).entry.bytes ++ bytesOf 1 (s.head h).faults ++ storeEntryBytes s.store.entries[h])
  | none => unchanged s .badField

/-- HEAD-STORE: protection first, then BUSY (R171). -/
def dealHeadStore (head : Nat) (s : State) : Dealt :=
  match headNo head with
  | some h =>
    if s.store.marks.getLsbD (protectionGroup h) then unchanged s .protect
    else if s.store.op.isSome then unchanged s .busy
    else ⟨s.startStore (.headWrite h (s.head h).entry), .started, []⟩
  | none => unchanged s .badField

/-- PROTECT: the mode first, then BUSY (R172). -/
def dealProtect (marks : BitVec 4) (s : State) : Dealt :=
  if s.mode ≠ .standby then unchanged s .wrongMode
  else if s.store.op.isSome then unchanged s .busy
  else ⟨s.startStore (.markWrite marks), .started, []⟩

/-- What a LATCH captures of a head at this moment (R107, R165). -/
def State.capture (h : HeadNo) (s : State) : Snapshot where
  state := (s.head h).state
  angle := relativeAngle s.tracker.count h
  serial := (s.head h).ctx.map (·.serial)
  elapsed := if (s.head h).state = .gassing then (s.head h).ctx.map (·.gasElapsed s.now) else none
  reading := (s.head h).reading
  peak := (s.head h).ctx.bind (·.peak)
  faults := (s.head h).faults

/-- A masked head's empty slot is filled; a slot that holds a snapshot keeps it (R165). -/
def State.latchHeads (mask : BitVec 24) (s : State) : State :=
  s.onHeads fun h hd =>
    if mask.getLsbD h.val = true ∧ hd.snapshot = none then { hd with snapshot := some (s.capture h) } else hd

/-- How many masked heads have a snapshot slot of which `p` holds. -/
def State.countMasked (mask : BitVec 24) (p : Option Snapshot → Bool) (s : State) : Nat :=
  ((List.finRange 24).filter fun h => mask.getLsbD h.val && p (s.head h).snapshot).length

/-- LATCH (R165). -/
def dealLatch (mask : BitVec 24) (s : State) : Dealt :=
  ⟨s.latchHeads mask, .done,
    bytesOf 1 (s.countMasked mask Option.isNone) ++ bytesOf 1 (s.countMasked mask Option.isSome)⟩

/-- The code of a head state, in the order of section 5.1 (R161). -/
def HeadState.code : HeadState → Nat
  | .idle => 0
  | .bound => 1
  | .sealed => 2
  | .gassing => 3
  | .settling => 4
  | .crimping => 5
  | .crimped => 6
  | .venting => 7
  | .lifted => 8

/-- A snapshot's fields in the layout of the SNAPSHOT reply (R161). Bits 3 to 7 of the presence byte, which R161 leaves
undefined, are sent as 0: DESIGN CHOICE, log entry 20. -/
def Snapshot.bytes (h : HeadNo) (p : Snapshot) : List Byte :=
  bytesOf 1 h.val ++ bytesOf 1 p.state.code ++ bytesOf 2 p.angle
  ++ bytesOf 1 (bit p.serial.isSome + 2 * bit p.elapsed.isSome + 4 * bit p.peak.isSome)
  ++ bytesOf 3 (p.serial.getD 0) ++ bytesOf 3 (p.elapsed.getD 0) ++ bytesOf 2 p.reading ++ bytesOf 2 (p.peak.getD 0)
  ++ bytesOf 1 p.faults

/-- SNAPSHOT reads a slot and empties it (R166). -/
def dealSnapshot (head : Nat) (s : State) : Dealt :=
  match headNo head with
  | some h =>
    match (s.head h).snapshot with
    | some p => ⟨s.onHead h fun hd => { hd with snapshot := none }, .done, p.bytes h⟩
    | none => unchanged s .empty
  | none => unchanged s .badField

/-! ## COUNTERS and ATTENTION -/

/-- The counters of a scope, 4 bytes each, or none for an undefined scope byte (R136, R167). -/
def State.scopeBytes (scope : Nat) (s : State) : Option (List Byte) :=
  match headNo scope with
  | some h =>
    let k := s.report.heads[h]
    some ([k.processed, k.accepted, k.rejected, k.headFaults].flatMap (bytesOf 4))
  | none =>
    let p := s.report.part
    if scope = 252 then
      some ([p.voids, p.untracked, p.duplicates, p.overruns, p.malformed, p.relayDrops, p.verdictsLost, p.repliesLost,
        p.headBusy].flatMap (bytesOf 4))
    else if scope = 253 then some ((p.rejects.toList.take 8).flatMap (bytesOf 4))
    else if scope = 254 then some ((p.rejects.toList.drop 8).flatMap (bytesOf 4))
    else none

/-- Clear the counters of a scope and no other (R136). -/
def State.clearScope (scope : Nat) (s : State) : State :=
  match headNo scope with
  | some h => s.bumpHead h fun _ => ⟨0, 0, 0, 0⟩
  | none =>
    if scope = 252 then s.bumpPart fun p => ⟨0, 0, 0, 0, 0, 0, 0, 0, 0, p.rejects⟩
    else if scope = 253 then
      s.bumpPart fun p => { p with rejects := Vector.ofFn fun k => if k.val < 8 then 0 else p.rejects[k] }
    else if scope = 254 then
      s.bumpPart fun p => { p with rejects := Vector.ofFn fun k => if k.val < 8 then p.rejects[k] else 0 }
    else s

/-- COUNTERS, with or without the clear option: the values reported are those before a clear (R136, R167). -/
def dealCounters (scope : Nat) (clear : Bool) (s : State) : Dealt :=
  match s.scopeBytes scope with
  | some bytes => ⟨if clear then s.clearScope scope else s, .done, bytes⟩
  | none => unchanged s .badField

/-- ATTENTION: clear the named flags and, if asked, replace the mask, as one action (R140). Bits 11 to 15 of the two sets in
the reply, which R161 leaves undefined, are sent as 0: DESIGN CHOICE, log entry 20. -/
def dealAttention (clear : BitVec 11) (mask : Option (BitVec 11)) (s : State) : Dealt :=
  let t := { s with report := { s.report with
    flags := s.report.flags &&& ~~~clear, mask := mask.getD s.report.mask } }
  ⟨t, .done, bytesOf 2 t.report.flags.toNat ++ bytesOf 2 t.report.mask.toNat⟩

/-! ## The line configuration -/

/-- The lift angles that a discharge angle must lie above: those of the live entries and of the pending entries that hold a
cam half (R16). -/
def Slot.lifts (sl : Slot) : List Nat :=
  (sl.live.map (·.cam.lift)).toList ++ (sl.pending.cam.map (·.lift)).toList

/-- A discharge angle is in its range and above every live and pending lift angle (R16). -/
def State.aDisFits (v : Nat) (s : State) : Bool :=
  decide (4096 ≤ v) && decide (v ≤ 6143)
    && s.recipes.toList.all fun sl => sl.lifts.all fun lift => decide (lift < v)

/-- CONFIG-WRITE of group 1 (R16). -/
def dealADis (v : Nat) (s : State) : Dealt :=
  if s.mode ≠ .standby then unchanged s .wrongMode
  else if s.aDisFits v then ⟨s.setTracker { s.tracker with aDis := v }, .done, []⟩
  else unchanged s .badField

/-- CONFIG-WRITE of group 2 (R139). -/
def dealFaultLimit (v : Nat) (s : State) : Dealt :=
  if 1 ≤ v ∧ v ≤ 15 then ⟨{ s with report := { s.report with faultLimit := v } }, .done, []⟩
  else unchanged s .badField

/-- CONFIG-WRITE of group 3 (R111). -/
def dealNq (v : Nat) (s : State) : Dealt :=
  if v = 4 ∨ v = 16 then ⟨{ s with nq := v }, .done, []⟩ else unchanged s .badField

/-- CONFIG-WRITE of group 4 (R124). -/
def dealLevelPair (v : Nat) (s : State) : Dealt :=
  if h : v < 4 then ⟨{ s with supply := { s.supply with levelPair := ⟨v, h⟩ } }, .done, []⟩
  else unchanged s .badField

/-- CONFIG-WRITE of group 5 (R125). -/
def dealDipTolerance (v : Nat) (s : State) : Dealt :=
  if 5 ≤ v ∧ v ≤ 200 then ⟨{ s with supply := { s.supply with dipTolerance := v } }, .done, []⟩
  else unchanged s .badField

/-- CONFIG-WRITE of group 6 (R62). -/
def dealValves (v : Vector ValveClass 4) (s : State) : Dealt :=
  if valvesValid v then ⟨{ s with valves := v }, .done, []⟩ else unchanged s .badField

/-- CONFIG-WRITE of group 7 (R123). -/
def dealFlow (v : Vector FlowBand 8) (s : State) : Dealt :=
  if flowValid v then ⟨{ s with supply := { s.supply with flow := v } }, .done, []⟩ else unchanged s .badField

/-- CONFIG-WRITE of any group (R168). -/
def dealConfigWrite (v : ConfigValue) (s : State) : Dealt :=
  match v with
  | .aDis v => dealADis v s
  | .faultLimit v => dealFaultLimit v s
  | .nq v => dealNq v s
  | .levelPair v => dealLevelPair v s
  | .dipTolerance v => dealDipTolerance v s
  | .valves v => dealValves v s
  | .flow v => dealFlow v s

/-- The values of a line-configuration group, in the layout of its write (R168). -/
def State.configBytes (group : Nat) (s : State) : Option (List Byte) :=
  match group with
  | 1 => some (bytesOf 2 s.tracker.aDis)
  | 2 => some (bytesOf 1 s.report.faultLimit)
  | 3 => some (bytesOf 1 s.nq)
  | 4 => some (bytesOf 1 s.supply.levelPair.val)
  | 5 => some (bytesOf 1 s.supply.dipTolerance)
  | 6 => some (s.valves.toList.flatMap fun v => bytesOf 2 v.lagOpen ++ bytesOf 2 v.lagClose)
  | 7 => some (s.supply.flow.toList.flatMap fun b => bytesOf 2 b.floor ++ bytesOf 2 b.flow)
  | _ => none

/-- CONFIG-READ (R168). -/
def dealConfigRead (group : Nat) (s : State) : Dealt :=
  match s.configBytes group with
  | some bytes => unchanged s .done (bytesOf 1 group ++ bytes)
  | none => unchanged s .badField

/-! ## Taking a request -/

/-- The request goes to its owning block (R162, check 4); the refusals of checks 1 and 2 stand beside it. A refused MODE
request carries the mode data like every MODE reply (R161). `pins` are the levels that a RESTART reads (R160). -/
def dealRequest (pins : BitVec 5) (r : Request) (s : State) : Dealt :=
  match r with
  | .unknown _ => unchanged s .unknown
  | .malformed k => unchanged s .badField (if k = 2 then s.modeData else [])
  | .status => dealStatus s
  | .mode t => dealMode t s
  | .recipeGas p g => dealRecipeGas p g s
  | .recipeCam p c => dealRecipeCam p c s
  | .recipeDrop p => dealRecipeDrop p s
  | .recipeClear p => dealRecipeClear p s
  | .recipeRead p source half => dealRecipeRead p source half s
  | .headWrite h rc f => dealHeadWrite h rc f s
  | .headRead h => dealHeadRead h s
  | .headStore h => dealHeadStore h s
  | .protect m => dealProtect m s
  | .latch m => dealLatch m s
  | .snapshot h => dealSnapshot h s
  | .counters scope clear => dealCounters scope clear s
  | .attention clear mask => dealAttention clear mask s
  | .configWrite v => dealConfigWrite v s
  | .configRead group => dealConfigRead group s
  | .restart => dealRestart pins s

/-- The request that arrived first of those in hand is taken from hand (R162, log entry 6). -/
def State.dropRequestInHand (s : State) : State :=
  { s with requestsInHand := s.requestsInHand.tail }

/-- Build the reply to a request dealt with, its summary as it stands then, and offer it to the origin queue (R141, R162). -/
def Dealt.replied (kind tag : Byte) (d : Dealt) : State :=
  d.state.offerReply ⟨kind, tag, d.result, d.state.summary, d.data⟩

/-- The management unit takes a request, `dt` µs after the command before: it deals with it whole and replies. A part
without an own address takes none, and requests are taken in the order they arrived at ring-in, so none is taken while one
that arrived before it is in hand (R156, R162, log entry 6). -/
def takeRequest (dt : Nat) (tag : Byte) (r : Request) (deal : State → Dealt) (s : State) : State :=
  let s := s.elapse dt
  if s.ring.own.isSome ∧ inTurn (tag, r) s.requestsInHand then
    (deal s.dropRequestInHand).replied (requestKind r) tag
  else s

end Sys2Proof.Machine
end

