-- ==== Sys2Proof/Machine/RingPort.lean ====
section
/-! DEFINITION. The ring port (chapter 10): the soundness check and the routing of arriving frames, and the completion of a
frame going out. The two queues and the arbiter stand in Ops.lean. -/

namespace Sys2Proof.Machine

/-- A frame that ends at ring-in is sound: its length, its payload-length byte and its CRC are right (R155). -/
def soundFrame (bs : List Byte) : Bool :=
  decide (6 ≤ bs.length) && decide (bs.length ≤ 64) && decide (byteAt bs 3 ≤ 58)
    && decide (bs.length = byteAt bs 3 + 6)
    && decide (fieldAt bs (bs.length - 2) 2 = (crc (bs.take (bs.length - 2))).toNat)

/-- The payload of a sound frame (R161). -/
def framePayload (bs : List Byte) : List Byte := (bs.drop 4).take (byteAt bs 3)

/-- The target of a broadcast MODE request: its payload is exactly two bytes, the MODE kind and a target; an undefined
target is refused with nothing changed (R145, R150). -/
def broadcastTarget (p : List Byte) : Option ModeTarget :=
  match p with
  | [k, t] => if k = 2 then modeTarget t.toNat else none
  | _ => none

/-- A broadcast REQUEST: carried out if it is a MODE request, without a reply (R150). -/
def State.takeBroadcast (p : List Byte) (s : State) : State :=
  match broadcastTarget p with
  | some t => (s.takeMode t).1
  | none => s

/-- Route a sound frame by its kind and address (R156). A ticket or a request for the part is handed on, and its unit takes
it as a step of its own (log entry 6). -/
def State.route (bs : List Byte) (s : State) : State :=
  let kind := byteAt bs 0
  let address := byteAt bs 1
  let own := decide (s.ring.own = some address)
  if kind = 1 ∧ own = true then
    { s with ticketsInHand := s.ticketsInHand ++ [(bs.getD 2 0, framePayload bs)] }
  else if kind = 3 ∧ own = true then
    { s with requestsInHand := s.requestsInHand ++ [(bs.getD 2 0, requestOf (framePayload bs))] }
  else if kind = 3 ∧ address = 31 then (s.takeBroadcast (framePayload bs)).offerRelay bs
  else if (kind = 2 ∨ kind = 4) ∧ own = true then s
  else s.offerRelay bs

/-- A frame ends at ring-in: an unsound one is dropped and counted, a sound one is routed (R155, R156). -/
def State.frameIn (bs : List Byte) (s : State) : State :=
  if soundFrame bs then s.route bs
  else (s.bumpPart PartCounters.bumpMalformed).raise .ringError

/-- RING_IN_FRAME (R155). -/
def execRingInFrame (dt : Nat) (bytes : List Byte) (s : State) : Host.Outcome State Fault Refusal :=
  .next ((s.elapse dt).frameIn bytes)

/-- The transmitter returns to idle and the arbiter chooses again (R159). -/
def State.endSending (s : State) : State :=
  State.arbitrate { s with ring := { s.ring with transmitter := none } }

/-- TRANSMIT_COMPLETE: it acts while a frame is being sent (R159). -/
def execTransmitComplete (dt : Nat) (s : State) : Host.Outcome State Fault Refusal :=
  if s.ring.transmitter.isSome then .next (s.elapse dt).endSending else .next (s.elapse dt)

end Sys2Proof.Machine
end

