-- ==== Sys2Proof/Machine/Requests.lean ====
section
/-! DEFINITION. The request commands, one meaning for each row: the shared taking of a request (R162) over the dealing of its
owning block; and RESET. -/

namespace Sys2Proof.Machine

/-- RESET: power-up or the reset line (R151). -/
def execReset (dt : Nat) (pins : BitVec 5) (s : State) : Host.Outcome State Fault Refusal :=
  .next ((s.elapse dt).resetPart pins)

/-- UNKNOWN_REQUEST: a request by its whole payload (R162); an empty payload or an undefined kind is answered UNKNOWN, a
wrong length, MODE target or CONFIG-WRITE group BAD_FIELD, and any other payload is dealt with as the request it spells
(log entry 6). -/
def execUnknownRequest (dt : Nat) (tag : Byte) (payload : WithPins (List Byte)) (s : State) :
    Host.Outcome State Fault Refusal :=
  let r := requestOf payload.operand
  .next (takeRequest dt tag r (dealRequest payload.pins r) s)

/-- STATUS (R163). -/
def execStatus (dt : Nat) (tag : Byte) (s : State) : Host.Outcome State Fault Refusal :=
  .next (takeRequest dt tag .status dealStatus s)

/-- MODE RUN (R145, R146). -/
def execModeRun (dt : Nat) (tag : Byte) (s : State) : Host.Outcome State Fault Refusal :=
  .next (takeRequest dt tag (.mode .run) (dealMode .run) s)

/-- MODE DRAIN (R145, R149). -/
def execModeDrain (dt : Nat) (tag : Byte) (s : State) : Host.Outcome State Fault Refusal :=
  .next (takeRequest dt tag (.mode .drain) (dealMode .drain) s)

/-- MODE HALT (R145, R147). -/
def execModeHalt (dt : Nat) (tag : Byte) (s : State) : Host.Outcome State Fault Refusal :=
  .next (takeRequest dt tag (.mode .halt) (dealMode .halt) s)

/-- MODE RESUME (R145, R146). -/
def execModeResume (dt : Nat) (tag : Byte) (s : State) : Host.Outcome State Fault Refusal :=
  .next (takeRequest dt tag (.mode .resume) (dealMode .resume) s)

/-- MODE STANDBY (R145, R148). -/
def execModeStandby (dt : Nat) (tag : Byte) (s : State) : Host.Outcome State Fault Refusal :=
  .next (takeRequest dt tag (.mode .standby) (dealMode .standby) s)

/-- RECIPE-GAS (R40, R43). -/
def execRecipeGas (dt : Nat) (tag : Byte) (product : Nat) (half : GasHalf) (s : State) :
    Host.Outcome State Fault Refusal :=
  .next (takeRequest dt tag (.recipeGas product half) (dealRecipeGas product half) s)

/-- RECIPE-CAM (R41, R44). -/
def execRecipeCam (dt : Nat) (tag : Byte) (product : Nat) (half : CamHalf) (s : State) :
    Host.Outcome State Fault Refusal :=
  .next (takeRequest dt tag (.recipeCam product half) (dealRecipeCam product half) s)

/-- RECIPE-DROP (R45). -/
def execRecipeDrop (dt : Nat) (tag : Byte) (product : Nat) (s : State) : Host.Outcome State Fault Refusal :=
  .next (takeRequest dt tag (.recipeDrop product) (dealRecipeDrop product) s)

/-- RECIPE-CLEAR (R46). -/
def execRecipeClear (dt : Nat) (tag : Byte) (product : Nat) (s : State) : Host.Outcome State Fault Refusal :=
  .next (takeRequest dt tag (.recipeClear product) (dealRecipeClear product) s)

/-- RECIPE-READ (R54). -/
def execRecipeRead (dt : Nat) (tag : Byte) (product source half : Nat) (s : State) : Host.Outcome State Fault Refusal :=
  .next (takeRequest dt tag (.recipeRead product source half) (dealRecipeRead product source half) s)

/-- HEAD-WRITE (R96). -/
def execHeadWrite (dt : Nat) (tag : Byte) (head : Nat) (resetCount : Bool) (fields : HeadFields) (s : State) :
    Host.Outcome State Fault Refusal :=
  .next (takeRequest dt tag (.headWrite head resetCount fields) (dealHeadWrite head resetCount fields) s)

/-- HEAD-READ (R164). -/
def execHeadRead (dt : Nat) (tag : Byte) (head : Nat) (s : State) : Host.Outcome State Fault Refusal :=
  .next (takeRequest dt tag (.headRead head) (dealHeadRead head) s)

/-- HEAD-STORE (R171). -/
def execHeadStore (dt : Nat) (tag : Byte) (head : Nat) (s : State) : Host.Outcome State Fault Refusal :=
  .next (takeRequest dt tag (.headStore head) (dealHeadStore head) s)

/-- PROTECT (R172). -/
def execProtect (dt : Nat) (tag : Byte) (marks : BitVec 4) (s : State) : Host.Outcome State Fault Refusal :=
  .next (takeRequest dt tag (.protect marks) (dealProtect marks) s)

/-- LATCH (R165). -/
def execLatch (dt : Nat) (tag : Byte) (mask : BitVec 24) (s : State) : Host.Outcome State Fault Refusal :=
  .next (takeRequest dt tag (.latch mask) (dealLatch mask) s)

/-- SNAPSHOT (R166). -/
def execSnapshot (dt : Nat) (tag : Byte) (head : Nat) (s : State) : Host.Outcome State Fault Refusal :=
  .next (takeRequest dt tag (.snapshot head) (dealSnapshot head) s)

/-- COUNTERS without the clear option (R167). -/
def execCounters (dt : Nat) (tag : Byte) (scope : Nat) (s : State) : Host.Outcome State Fault Refusal :=
  .next (takeRequest dt tag (.counters scope false) (dealCounters scope false) s)

/-- COUNTERS with the clear option (R136, R167). -/
def execCountersClear (dt : Nat) (tag : Byte) (scope : Nat) (s : State) : Host.Outcome State Fault Refusal :=
  .next (takeRequest dt tag (.counters scope true) (dealCounters scope true) s)

/-- ATTENTION (R140). -/
def execAttention (dt : Nat) (tag : Byte) (clear : BitVec 11) (mask : Option (BitVec 11)) (s : State) :
    Host.Outcome State Fault Refusal :=
  .next (takeRequest dt tag (.attention clear mask) (dealAttention clear mask) s)

/-- CONFIG-WRITE of group 1 (R16). -/
def execConfigWriteADis (dt : Nat) (tag : Byte) (value : Nat) (s : State) : Host.Outcome State Fault Refusal :=
  .next (takeRequest dt tag (.configWrite (.aDis value)) (dealADis value) s)

/-- CONFIG-WRITE of group 2 (R139). -/
def execConfigWriteFaultLimit (dt : Nat) (tag : Byte) (value : Nat) (s : State) : Host.Outcome State Fault Refusal :=
  .next (takeRequest dt tag (.configWrite (.faultLimit value)) (dealFaultLimit value) s)

/-- CONFIG-WRITE of group 3 (R111). -/
def execConfigWriteNq (dt : Nat) (tag : Byte) (value : Nat) (s : State) : Host.Outcome State Fault Refusal :=
  .next (takeRequest dt tag (.configWrite (.nq value)) (dealNq value) s)

/-- CONFIG-WRITE of group 4 (R124). -/
def execConfigWriteLevelPair (dt : Nat) (tag : Byte) (value : Nat) (s : State) : Host.Outcome State Fault Refusal :=
  .next (takeRequest dt tag (.configWrite (.levelPair value)) (dealLevelPair value) s)

/-- CONFIG-WRITE of group 5 (R125). -/
def execConfigWriteDipTolerance (dt : Nat) (tag : Byte) (value : Nat) (s : State) : Host.Outcome State Fault Refusal :=
  .next (takeRequest dt tag (.configWrite (.dipTolerance value)) (dealDipTolerance value) s)

/-- CONFIG-WRITE of group 6 (R62). -/
def execConfigWriteValveClassTable (dt : Nat) (tag : Byte) (value : Vector ValveClass 4) (s : State) :
    Host.Outcome State Fault Refusal :=
  .next (takeRequest dt tag (.configWrite (.valves value)) (dealValves value) s)

/-- CONFIG-WRITE of group 7 (R123). -/
def execConfigWriteFlowTable (dt : Nat) (tag : Byte) (value : Vector FlowBand 8) (s : State) :
    Host.Outcome State Fault Refusal :=
  .next (takeRequest dt tag (.configWrite (.flow value)) (dealFlow value) s)

/-- CONFIG-READ (R168). -/
def execConfigRead (dt : Nat) (tag : Byte) (group : Nat) (s : State) : Host.Outcome State Fault Refusal :=
  .next (takeRequest dt tag (.configRead group) (dealConfigRead group) s)

/-- RESTART, with the levels on the address pins at that moment (R152, R160). -/
def execRestart (dt : Nat) (tag : WithPins Byte) (s : State) : Host.Outcome State Fault Refusal :=
  .next (takeRequest dt tag.operand .restart (dealRestart tag.pins) s)

end Sys2Proof.Machine
end

