-- ==== Sys2Proof/Machine/Supply.lean ====
section
/-! DEFINITION. The gas supply monitor (chapter 7): manifold samples, the supply states and the dip timer. The flow table's
band selection stands in Dose.lean. -/

namespace Sys2Proof.Machine

/-- The trip level of a level pair, in kPa (section 7.2). -/
def tripLevel (pair : Fin 4) : Nat := 700 + 100 * pair.val

/-- The release level of a level pair, 60 kPa above its trip level (section 7.2). -/
def releaseLevel (pair : Fin 4) : Nat := tripLevel pair + 60

/-- A manifold sample forms Pm, kept in 0..1500 (R116). -/
def manifoldPressure (raw : Int) : Nat := (max 0 (min 1500 raw)).toNat

/-- Judge the Pm just formed by the supply state of the moment (R117, R118, R120). -/
def Supply.judge (now : Nat) (u : Supply) : Supply :=
  match u.state with
  | .normal =>
    if u.pm < tripLevel u.levelPair then
      { u with state := .dip, dipTimer := some (now + u.dipTolerance * 1000) }
    else u
  | .dip => if releaseLevel u.levelPair ≤ u.pm then { u with state := .normal, dipTimer := none } else u
  | .low => if releaseLevel u.levelPair ≤ u.pm then { u with state := .normal } else u

/-- LOW is sent to a head, which takes it later as an event of its own (R119). -/
def Head.sendLow (hd : Head) : Head := { hd with inbox := { hd.inbox with lows := hd.inbox.lows + 1 } }

/-- The supply enters LOW: LOW goes to every head and SUPPLY_LOW is set (R119). -/
def State.enterLow (s : State) : State :=
  let t : State := { s with supply := { s.supply with state := .low, dipTimer := none } }
  (t.onHeads fun _ hd => hd.sendLow).raise .supplyLow

/-- MANIFOLD_SAMPLE (R116). -/
def execManifoldSample (dt : Nat) (raw : Int) (s : State) : Host.Outcome State Fault Refusal :=
  .next { s.elapse dt with
    supply := Supply.judge (s.now + dt) { s.supply with pm := manifoldPressure raw } }

/-- DIP_TIMER_EXPIRY: it acts while the supply is DIP and the timer runs (R119). -/
def execDipTimerExpiry (dt : Nat) (s : State) : Host.Outcome State Fault Refusal :=
  if s.supply.state = .dip ∧ s.supply.dipTimer.isSome = true then .next (s.elapse dt).enterLow
  else .next (s.elapse dt)

end Sys2Proof.Machine
end

