-- ==== Sys2Proof/Machine/Dispatch.lean ====
section
/-! DEFINITION. The dispatch: one arm for each command, one direct call of its meaning. -/

namespace Sys2Proof.Machine

/-- The effect of a command on everything but the queue of waiting commands. -/
def exec (i : Instr) (s : State) : Host.Outcome State Fault Refusal :=
  match i with
  | .reset dt pins => Sys2Proof.Machine.execReset dt pins s
  | .forwardEdge dt lines order => Sys2Proof.Machine.execForwardEdge dt lines order s
  | .reverseEdge dt => Sys2Proof.Machine.execReverseEdge dt s
  | .indexMark dt lines order6143 order0 => Sys2Proof.Machine.execIndexMark dt lines order6143 order0 s
  | .pitchTimerSaturation dt => Sys2Proof.Machine.execPitchTimerSaturation dt s
  | .canPresentEdge dt => Sys2Proof.Machine.execCanPresentEdge dt s
  | .bellPressureSample dt h raw => Sys2Proof.Machine.execBellPressureSample dt h raw s
  | .crimpForceSample dt h newtons => Sys2Proof.Machine.execCrimpForceSample dt h newtons s
  | .manifoldSample dt raw => Sys2Proof.Machine.execManifoldSample dt raw s
  | .overpressureTrip dt h => Sys2Proof.Machine.execOverpressureTrip dt h s
  | .sealLevelReport dt h => Sys2Proof.Machine.execSealLevelReport dt h s
  | .commandTimerExpiry dt h => Sys2Proof.Machine.execCommandTimerExpiry dt h s
  | .sealCheckTimerExpiry dt h => Sys2Proof.Machine.execSealCheckTimerExpiry dt h s
  | .dwellTimerExpiry dt h gauge => Sys2Proof.Machine.execDwellTimerExpiry dt h gauge s
  | .ventPulseTimerExpiry dt h => Sys2Proof.Machine.execVentPulseTimerExpiry dt h s
  | .resetVentTimerExpiry dt h => Sys2Proof.Machine.execResetVentTimerExpiry dt h s
  | .dipTimerExpiry dt => Sys2Proof.Machine.execDipTimerExpiry dt s
  | .lowEvent dt h => Sys2Proof.Machine.execLowEvent dt h s
  | .headHalt dt h => Sys2Proof.Machine.execHeadHalt dt h s
  | .trackerHaltRequest dt cause => Sys2Proof.Machine.execTrackerHaltRequest dt cause s
  | .storeOperationTimerExpiry dt => Sys2Proof.Machine.execStoreOperationTimerExpiry dt s
  | .ringInFrame dt bytes => Sys2Proof.Machine.execRingInFrame dt bytes s
  | .infeedTicket dt ticketFlags payload => Sys2Proof.Machine.execInfeedTicket dt ticketFlags payload s
  | .transmitComplete dt => Sys2Proof.Machine.execTransmitComplete dt s
  | .unknownRequest dt tag payload => Sys2Proof.Machine.execUnknownRequest dt tag payload s
  | .status dt tag => Sys2Proof.Machine.execStatus dt tag s
  | .modeRun dt tag => Sys2Proof.Machine.execModeRun dt tag s
  | .modeDrain dt tag => Sys2Proof.Machine.execModeDrain dt tag s
  | .modeHalt dt tag => Sys2Proof.Machine.execModeHalt dt tag s
  | .modeResume dt tag => Sys2Proof.Machine.execModeResume dt tag s
  | .modeStandby dt tag => Sys2Proof.Machine.execModeStandby dt tag s
  | .recipeGas dt tag product half => Sys2Proof.Machine.execRecipeGas dt tag product half s
  | .recipeCam dt tag product half => Sys2Proof.Machine.execRecipeCam dt tag product half s
  | .recipeDrop dt tag product => Sys2Proof.Machine.execRecipeDrop dt tag product s
  | .recipeClear dt tag product => Sys2Proof.Machine.execRecipeClear dt tag product s
  | .recipeRead dt tag product source half => Sys2Proof.Machine.execRecipeRead dt tag product source half s
  | .headWrite dt tag head resetCount fields => Sys2Proof.Machine.execHeadWrite dt tag head resetCount fields s
  | .headRead dt tag head => Sys2Proof.Machine.execHeadRead dt tag head s
  | .headStore dt tag head => Sys2Proof.Machine.execHeadStore dt tag head s
  | .protect dt tag marks => Sys2Proof.Machine.execProtect dt tag marks s
  | .latch dt tag mask => Sys2Proof.Machine.execLatch dt tag mask s
  | .snapshot dt tag head => Sys2Proof.Machine.execSnapshot dt tag head s
  | .counters dt tag scope => Sys2Proof.Machine.execCounters dt tag scope s
  | .countersClear dt tag scope => Sys2Proof.Machine.execCountersClear dt tag scope s
  | .attention dt tag clear mask => Sys2Proof.Machine.execAttention dt tag clear mask s
  | .configWriteADis dt tag value => Sys2Proof.Machine.execConfigWriteADis dt tag value s
  | .configWriteFaultLimit dt tag value => Sys2Proof.Machine.execConfigWriteFaultLimit dt tag value s
  | .configWriteNq dt tag value => Sys2Proof.Machine.execConfigWriteNq dt tag value s
  | .configWriteLevelPair dt tag value => Sys2Proof.Machine.execConfigWriteLevelPair dt tag value s
  | .configWriteDipTolerance dt tag value => Sys2Proof.Machine.execConfigWriteDipTolerance dt tag value s
  | .configWriteValveClassTable dt tag value => Sys2Proof.Machine.execConfigWriteValveClassTable dt tag value s
  | .configWriteFlowTable dt tag value => Sys2Proof.Machine.execConfigWriteFlowTable dt tag value s
  | .configRead dt tag group => Sys2Proof.Machine.execConfigRead dt tag group s
  | .restart dt tag => Sys2Proof.Machine.execRestart dt tag s

end Sys2Proof.Machine
end

