-- ==== Sys2Proof/Safety.lean ====
section
/-! DEFINITION. What counts as a safe run of the part, and the words the statements are written in: the invariants that the
spec gives in prose, each a predicate of the state, and the answer a request gets. -/

namespace Sys2Proof.Machine

/-! ## Heads (section 5.1, R73) -/

/-- The clamp by the table of section 5.1, where the table fixes it: in every state but VENTING. -/
def HeadState.clampOn : HeadState → Bool
  | .sealed | .gassing | .settling | .crimping | .crimped => true
  | .idle | .bound | .venting | .lifted => false

/-- The vent valve in VENTING follows the vent mode (R73). -/
def VentMode.ventOn : VentMode → Bool
  | .off => false
  | .pulsing _ phaseOn => phaseOn
  | .held => true

/-- The vent pulse timer runs exactly while the vent pulses (R88, R89). -/
def VentMode.timed : VentMode → Bool
  | .pulsing _ _ => true
  | .off | .held => false

/-- The vent valve of a head: the reset vent in IDLE, the vent mode in VENTING, off in every other state (section 5.1, R98). -/
def Head.ventOn (hd : Head) : Bool :=
  match hd.state with
  | .idle => hd.resetVentTimer.isSome
  | .venting => hd.ventMode.ventOn
  | .bound | .sealed | .gassing | .settling | .crimping | .crimped | .lifted => false

/-- A head's outputs follow its state by the table of section 5.1 (R73). -/
abbrev Head.OutputsFit (hd : Head) : Prop :=
  hd.gasValve = decide (hd.state = .gassing)
  ∧ hd.ventValve = hd.ventOn
  ∧ hd.collet = decide (hd.state = .crimping)
  ∧ (hd.state ≠ .venting → hd.clamp = hd.state.clampOn)

/-- A head holds exactly one context in every state but IDLE, and none there (section 5.1); the context has gassing figures
exactly when its gassing began, and an end exactly when it is over (R67, R77, R102). -/
abbrev Head.ContextFits (hd : Head) : Prop :=
  (hd.ctx.isSome = decide (hd.state ≠ .idle))
  ∧ ∀ c ∈ hd.ctx, c.peak.isSome = c.start.isSome
    ∧ c.finish.isSome = (c.start.isSome && decide (hd.state ≠ .gassing))
    ∧ (hd.state = .gassing → c.start.isSome = true)
    ∧ (hd.state = .bound ∨ hd.state = .sealed → c.start = none)

/-- A timer, a comparator, a watch or a qualification runs only in the state it belongs to (R76, R77, R85, R86, R99, R103,
R105, R108, R110). -/
abbrev Head.TimersFit (hd : Head) : Prop :=
  hd.commandTimer.isSome = decide (hd.state = .gassing)
  ∧ (hd.sealTimer.isSome = true → hd.state = .gassing)
  ∧ hd.dwellTimer.isSome = decide (hd.state = .crimping)
  ∧ hd.ventTimer.isSome = hd.ventMode.timed
  ∧ (hd.ventMode = .off ↔ hd.state ≠ .venting)
  ∧ (hd.resetVentTimer.isSome = true → hd.state = .idle)
  ∧ (hd.comparator.isSome = true → hd.state = .gassing)
  ∧ (hd.sealWatch.isSome = true → hd.state = .gassing)
  ∧ hd.qualification.isSome = decide (hd.state = .crimping)

/-- Everything of a head that follows its state. -/
abbrev Head.Fits (hd : Head) : Prop := hd.OutputsFit ∧ hd.ContextFits ∧ hd.TimersFit

/-- Every head's outputs, context and timers follow its state. -/
abbrev State.HeadsFit (s : State) : Prop := ∀ h : HeadNo, (s.head h).Fits

/-- A head's gas valve and vent valve are never on at the same time (R73). -/
abbrev State.GasOrVent (s : State) : Prop :=
  ∀ h : HeadNo, ¬ ((s.head h).gasValve = true ∧ (s.head h).ventValve = true)

/-! ## Modes (R144) -/

/-- A head in STANDBY never holds a can context (R144). -/
abbrev State.StandbyEmpty (s : State) : Prop := s.mode = .standby → ∀ h : HeadNo, (s.head h).ctx = none

/-- The line-stop output is asserted exactly in HALT, and the HALT cause is none exactly outside it (R144, R153). -/
abbrev State.HaltFits (s : State) : Prop :=
  s.lineStop = decide (s.mode = .halt) ∧ (s.haltCause = .none ↔ s.mode ≠ .halt)

/-! ## The recipe table (R39, R47, R49) -/

/-- The halves a slot holds have passed their checks, with the lift angles below the discharge angle in force (R39 to R41). -/
abbrev Slot.Fits (aDis : Nat) (sl : Slot) : Prop :=
  (∀ r ∈ sl.live, gasValid r.gas) ∧ (∀ r ∈ sl.live, camValid r.cam aDis)
  ∧ (∀ g ∈ sl.pending.gas, gasValid g) ∧ (∀ c ∈ sl.pending.cam, camValid c aDis)
  ∧ sl.version < 256

/-- A slot waits to be promoted: its pending state is COMPLETE or REMOVAL (R47). -/
def Slot.waits (sl : Slot) : Bool :=
  match sl.pending with
  | .complete _ _ | .removal => true
  | .none | .gasOnly _ | .camOnly _ => false

/-- Every slot's halves are valid, the discharge angle is in its range, and in STANDBY and HALT no slot waits (R16, R39,
R49). -/
abbrev State.RecipesFit (s : State) : Prop :=
  (4096 ≤ s.tracker.aDis ∧ s.tracker.aDis ≤ 6143)
  ∧ (∀ p : SlotNo, (s.slot p).Fits s.tracker.aDis)
  ∧ (s.mode = .standby ∨ s.mode = .halt → ∀ p : SlotNo, (s.slot p).waits = false)

/-- The committed dose of every context lies within the limits of its recipe copy, and the command time given in any gassing
is at most the copy's Tmax (R60, R64). -/
abbrev State.DosesFit (s : State) : Prop :=
  ∀ h : HeadNo, ∀ c ∈ (s.head h).ctx,
    (c.gas.dMin ≤ c.dose ∧ c.dose ≤ c.gas.dMax) ∧ ∀ g ∈ c.start, g.command ≤ c.gas.tMax

/-- The reason set of every context is listed in rising code order without repeats, and holds none of the three reasons of
tickets sent back at once (section 8.1, R128). -/
abbrev State.ReasonsFit (s : State) : Prop :=
  ∀ h : HeadNo, ∀ c ∈ (s.head h).ctx,
    c.reasons.Pairwise (fun a b => a.code < b.code)
    ∧ ∀ r ∈ c.reasons, r ≠ .noRecipe ∧ r ≠ .headDisabled ∧ r ≠ .notRunning

/-! ## The infeed queue and the ring (R21, R22, R157 to R159) -/

/-- How many bytes follow the fixed part of an originated frame's payload: the data section of a reply (R161). -/
def OriginFrame.dataLength : OriginFrame → Nat
  | .ticket _ => 0
  | .reply r => r.data.length

/-- The payload of an originated frame fits the 58 bytes of a frame: a reply's data section is at most 55 bytes long
(R155, R161). -/
abbrev OriginFrame.Fits (f : OriginFrame) : Prop := f.dataLength ≤ 55

/-- The queues hold at most 8 tickets, 4 relay frames and 8 origin frames, every origin frame fits, and an idle transmitter
leaves no frame waiting (R22, R157 to R159). -/
abbrev State.QueuesFit (s : State) : Prop :=
  s.infeed.queue.length ≤ 8 ∧ s.ring.relay.length ≤ 4 ∧ s.ring.origin.length ≤ 8
  ∧ (∀ f ∈ s.ring.origin, f.Fits)
  ∧ (s.ring.transmitter = none → s.ring.relay = [] ∧ s.ring.origin = [])

/-- The own address is what the pins spell: 1 to 30, or none for 0 and 31 (R156, R160). -/
abbrev State.AddressFits (s : State) : Prop :=
  s.ring.own = if s.ring.pins = 0 ∨ s.ring.pins = 31 then none else some s.ring.pins.toNat

/-- A can serial other than the untracked serial stands at most once across the infeed queue and the 24 can contexts
together (R21). No ticket in the queue has the untracked serial (R19). -/
abbrev State.SerialsFit (s : State) : Prop :=
  s.infeed.queue.Pairwise (fun a b => a.serial ≠ b.serial)
  ∧ (∀ t ∈ s.infeed.queue, t.serial ≠ Config.untrackedSerial
      ∧ ∀ h : HeadNo, ∀ c ∈ (s.head h).ctx, c.serial ≠ t.serial)
  ∧ ∀ h k : HeadNo, h ≠ k → ∀ c ∈ (s.head h).ctx, ∀ d ∈ (s.head k).ctx,
      c.serial = Config.untrackedSerial ∨ c.serial ≠ d.serial

/-! ## The tracker, the supply and the store -/

/-- The tracker's values lie in their ranges, and P is valid exactly when two marks have been seen since the entry to RUN
(section 1.1, R13, R15). -/
abbrev State.TrackerFits (s : State) : Prop :=
  s.tracker.count < 6144 ∧ s.tracker.hold ≤ 2 ∧ s.tracker.pitch ≤ Config.pitchSaturation
  ∧ s.tracker.marksSeen ≤ 2 ∧ s.tracker.pValid = decide (s.tracker.marksSeen = 2)

/-- The dip timer runs exactly in DIP, and Pm lies in 0..1500 (R116 to R120). -/
abbrev State.SupplyFits (s : State) : Prop :=
  s.supply.dipTimer.isSome = decide (s.supply.state = .dip) ∧ s.supply.pm ≤ 1500

/-- The operation timer runs exactly while an operation is in flight (chapter 12). -/
abbrev State.StoreFits (s : State) : Prop := s.store.timer.isSome = s.store.op.isSome

/-! ## The line configuration and the readings -/

/-- Every lag of the valve class table lies in 0..20,000 µs (R61, R62). -/
abbrev ValvesFit (v : Vector ValveClass 4) : Prop :=
  ∀ k : Fin 4, v[k].lagOpen ≤ 20000 ∧ v[k].lagClose ≤ 20000

/-- Every floor of the flow table lies in 0..1500 kPa and every Q in 1..2000 mg/s, and the floors rise strictly (R122,
R123). -/
abbrev FlowFits (v : Vector FlowBand 8) : Prop :=
  (∀ k : Fin 8, v[k].floor ≤ 1500 ∧ 1 ≤ v[k].flow ∧ v[k].flow ≤ 2000)
  ∧ ∀ j k : Fin 8, j < k → v[j].floor < v[k].floor

/-- Every group of the line configuration lies in its range (R16, R61, R111, R122, R125, R139). The level pair has no value
outside its range. -/
abbrev State.LineConfigurationFits (s : State) : Prop :=
  (4096 ≤ s.tracker.aDis ∧ s.tracker.aDis ≤ 6143)
  ∧ (1 ≤ s.report.faultLimit ∧ s.report.faultLimit ≤ 15)
  ∧ (s.nq = 4 ∨ s.nq = 16)
  ∧ (5 ≤ s.supply.dipTolerance ∧ s.supply.dipTolerance ≤ 200)
  ∧ ValvesFit s.valves ∧ FlowFits s.supply.flow

/-- Every bell reading, and every peak and settle pressure formed from one, lies in 0..1500 kPa, and so do those a snapshot
captured (R101, R102, R107). -/
abbrev State.ReadingsFit (s : State) : Prop :=
  ∀ h : HeadNo, (s.head h).reading ≤ 1500
    ∧ (∀ c ∈ (s.head h).ctx, (∀ p ∈ c.peak, p ≤ 1500) ∧ ∀ p ∈ c.settle, p ≤ 1500)
    ∧ ∀ x ∈ (s.head h).snapshot, x.reading ≤ 1500 ∧ ∀ p ∈ x.peak, p ≤ 1500

/-! ## Counters (R134) -/

/-- A head's counters, in the order of the table of section 8.5. -/
def HeadCounters.all (k : HeadCounters) : List Nat := [k.processed, k.accepted, k.rejected, k.headFaults]

/-- The nine part-wide counters other than the rejects per reason, in the order of R167. -/
def PartCounters.kinds (p : PartCounters) : List Nat :=
  [p.voids, p.untracked, p.duplicates, p.overruns, p.malformed, p.relayDrops, p.verdictsLost, p.repliesLost, p.headBusy]

/-- Every counter lies in 0..4,294,967,295 (R134). -/
abbrev State.CountersFit (s : State) : Prop :=
  (∀ h : HeadNo, ∀ n ∈ s.report.heads[h].all, n ≤ Config.counterMax)
  ∧ (∀ n ∈ s.report.part.kinds, n ≤ Config.counterMax)
  ∧ ∀ k : Fin 16, s.report.part.rejects[k] ≤ Config.counterMax

/-- No counter of `t` is below the same counter of `s` (R134). -/
abbrev State.CountersRise (s t : State) : Prop :=
  (∀ h : HeadNo, List.Forall₂ (· ≤ ·) s.report.heads[h].all t.report.heads[h].all)
  ∧ List.Forall₂ (· ≤ ·) s.report.part.kinds t.report.part.kinds
  ∧ ∀ k : Fin 16, s.report.part.rejects[k] ≤ t.report.part.rejects[k]

/-! ## A safe state -/

/-- A state is safe when all the invariants hold of it. -/
abbrev State.Safe (s : State) : Prop :=
  s.HeadsFit ∧ s.StandbyEmpty ∧ s.HaltFits ∧ s.RecipesFit ∧ s.DosesFit ∧ s.ReasonsFit ∧ s.QueuesFit ∧ s.SerialsFit
  ∧ s.TrackerFits ∧ s.SupplyFits ∧ s.StoreFits ∧ s.AddressFits ∧ s.LineConfigurationFits ∧ s.ReadingsFit
  ∧ s.CountersFit

/-! ## The words of the statements -/

/-- The management unit may take a request with this tag: the part has an own address, and no other request stands before
it in hand (R156, R162; what is in hand is log entry 6). -/
abbrev State.Admits (tag : Byte) (r : Request) (s : State) : Prop :=
  s.ring.own.isSome = true ∧ ∀ x ∈ s.requestsInHand.head?, x = (tag, r)

/-- A request taken by the management unit, `dt` µs after the command before: it is in hand no longer (R162). -/
def State.taking (dt : Nat) (s : State) : State :=
  { s with now := s.now + dt, requestsInHand := s.requestsInHand.tail }

/-- A request answered: the reply, with the attention summary as it stands then, is offered to the origin queue (R141,
R158, R162). -/
def State.answering (kind tag : Byte) (result : Result) (data : List Byte) (s : State) : State :=
  s.offerReply ⟨kind, tag, result, s.summary, data⟩

/-- `dt` µs pass and nothing else changes. -/
def State.waiting (dt : Nat) (s : State) : State := { s with now := s.now + dt }

/-- The relative angle at which each phase event reaches a head: one of the six angles of its recipe copy, or the discharge
angle (R10). -/
def PhaseEvent.angle (aDis : Nat) (cam : CamHalf) : PhaseEvent → Nat
  | .sealing => cam.sealAngle
  | .gasStart => cam.gasStart
  | .gasEnd => cam.gasEnd
  | .crimp => cam.crimp
  | .vent => cam.vent
  | .lift => cam.lift
  | .discharge => aDis

/-- The states in which each phase event acts, by the table of R74. -/
def PhaseEvent.actsIn : PhaseEvent → HeadState → Bool
  | .sealing, .bound | .gasStart, .sealed | .gasEnd, .gassing | .crimp, .settling | .vent, .crimped
  | .vent, .crimping | .lift, .venting | .discharge, .lifted => true
  | _, _ => false

end Sys2Proof.Machine

namespace Sys2Proof

/-- The time in µs that passes before a command is taken (log entry 1). -/
def Instr.elapsed : Instr → Nat
  | .reset dt _ | .forwardEdge dt _ _ | .reverseEdge dt | .indexMark dt _ _ _ | .pitchTimerSaturation dt
  | .canPresentEdge dt | .bellPressureSample dt _ _ | .crimpForceSample dt _ _ | .manifoldSample dt _
  | .overpressureTrip dt _ | .sealLevelReport dt _ | .commandTimerExpiry dt _ | .sealCheckTimerExpiry dt _
  | .dwellTimerExpiry dt _ _ | .ventPulseTimerExpiry dt _ | .resetVentTimerExpiry dt _ | .dipTimerExpiry dt
  | .lowEvent dt _ | .headHalt dt _ | .trackerHaltRequest dt _ | .storeOperationTimerExpiry dt
  | .ringInFrame dt _ | .infeedTicket dt _ _ | .transmitComplete dt | .unknownRequest dt _ _ | .status dt _
  | .modeRun dt _ | .modeDrain dt _ | .modeHalt dt _ | .modeResume dt _ | .modeStandby dt _
  | .recipeGas dt _ _ _ | .recipeCam dt _ _ _ | .recipeDrop dt _ _ | .recipeClear dt _ _
  | .recipeRead dt _ _ _ _ | .headWrite dt _ _ _ _ | .headRead dt _ _ | .headStore dt _ _ | .protect dt _ _
  | .latch dt _ _ | .snapshot dt _ _ | .counters dt _ _ | .countersClear dt _ _ | .attention dt _ _ _
  | .configWriteADis dt _ _ | .configWriteFaultLimit dt _ _ | .configWriteNq dt _ _
  | .configWriteLevelPair dt _ _ | .configWriteDipTolerance dt _ _ | .configWriteValveClassTable dt _ _
  | .configWriteFlowTable dt _ _ | .configRead dt _ _ | .restart dt _ => dt

/-- The request that a request command brings, with its tag; none for the other commands. -/
def Instr.request : Instr → Option (Byte × Request)
  | .unknownRequest _ tag ⟨payload, _⟩ => some (tag, Machine.requestOf payload)
  | .status _ tag => some (tag, .status)
  | .modeRun _ tag => some (tag, .mode .run)
  | .modeDrain _ tag => some (tag, .mode .drain)
  | .modeHalt _ tag => some (tag, .mode .halt)
  | .modeResume _ tag => some (tag, .mode .resume)
  | .modeStandby _ tag => some (tag, .mode .standby)
  | .recipeGas _ tag product half => some (tag, .recipeGas product half)
  | .recipeCam _ tag product half => some (tag, .recipeCam product half)
  | .recipeDrop _ tag product => some (tag, .recipeDrop product)
  | .recipeClear _ tag product => some (tag, .recipeClear product)
  | .recipeRead _ tag product source half => some (tag, .recipeRead product source half)
  | .headWrite _ tag head resetCount fields => some (tag, .headWrite head resetCount fields)
  | .headRead _ tag head => some (tag, .headRead head)
  | .headStore _ tag head => some (tag, .headStore head)
  | .protect _ tag marks => some (tag, .protect marks)
  | .latch _ tag mask => some (tag, .latch mask)
  | .snapshot _ tag head => some (tag, .snapshot head)
  | .counters _ tag scope => some (tag, .counters scope false)
  | .countersClear _ tag scope => some (tag, .counters scope true)
  | .attention _ tag clear mask => some (tag, .attention clear mask)
  | .configWriteADis _ tag v => some (tag, .configWrite (.aDis v))
  | .configWriteFaultLimit _ tag v => some (tag, .configWrite (.faultLimit v))
  | .configWriteNq _ tag v => some (tag, .configWrite (.nq v))
  | .configWriteLevelPair _ tag v => some (tag, .configWrite (.levelPair v))
  | .configWriteDipTolerance _ tag v => some (tag, .configWrite (.dipTolerance v))
  | .configWriteValveClassTable _ tag v => some (tag, .configWrite (.valves v))
  | .configWriteFlowTable _ tag v => some (tag, .configWrite (.flow v))
  | .configRead _ tag group => some (tag, .configRead group)
  | .restart _ ⟨tag, _⟩ => some (tag, .restart)
  | .reset _ _ | .forwardEdge _ _ _ | .reverseEdge _ | .indexMark _ _ _ _ | .pitchTimerSaturation _
  | .canPresentEdge _ | .bellPressureSample _ _ _ | .crimpForceSample _ _ _ | .manifoldSample _ _
  | .overpressureTrip _ _ | .sealLevelReport _ _ | .commandTimerExpiry _ _ | .sealCheckTimerExpiry _ _
  | .dwellTimerExpiry _ _ _ | .ventPulseTimerExpiry _ _ | .resetVentTimerExpiry _ _ | .dipTimerExpiry _
  | .lowEvent _ _ | .headHalt _ _ | .trackerHaltRequest _ _ | .storeOperationTimerExpiry _ | .ringInFrame _ _
  | .infeedTicket _ _ _ | .transmitComplete _ => none

/-- The commands that can lower a counter: a reset, a RESTART, a COUNTERS request with the clear option, and a request given
by a payload that spells one of these (R134). -/
abbrev Instr.MayLowerCounters (i : Instr) : Prop :=
  (∃ dt pins, i = .reset dt pins) ∨ (∃ dt tag pins, i = .restart dt ⟨tag, pins⟩)
  ∨ (∃ dt tag scope, i = .countersClear dt tag scope)
  ∨ ∃ dt tag payload pins, i = .unknownRequest dt tag ⟨payload, pins⟩
      ∧ (Machine.requestOf payload = .restart ∨ ∃ scope, Machine.requestOf payload = .counters scope true)

end Sys2Proof
end

