-- ==== Sys2Proof/Certificates/Slice0/Obligations.lean ====
section
/-! DEFINITION. The statements about the model, one `def Obligations.<Name> : Prop` each, listed in OBLIGATIONS.json. A
statement that gives the whole next state as an equation gives the command's frame with it: every field it does not name
is as it was. -/

open Sys2Proof Sys2Proof.Machine

/-! ## The step and every command -/

/-- The step takes the command at the front of the queue and runs it with the queue's rest. That an empty queue idles is the
model's choice (log entry 2). -/
def Obligations.StepTakesTheFrontCommand : Prop :=
  ∀ (s : State) (c : Instr) (rest : List Instr),
    (s.pending = c :: rest → step s = exec c { s with pending := rest }) ∧ (s.pending = [] → step s = .next s)

/-- Every command completes on every state: that no command faults or is refused is the model's reading of the spec (log
entry 18, DEDUCED). It leaves the queue of waiting commands as it was, and the model's clock moves by the command's own
time (log entry 1). -/
def Obligations.EveryCommandCompletes : Prop :=
  ∀ (i : Instr) (s : State),
    ∃ t, exec i s = .next t ∧ t.pending = s.pending ∧ t.now = s.now + i.elapsed

/-! ## Reset -/

/-- Power-up and the reset line put every block outside the heads and the store at its values after reset (R1, R36, R56,
R61, R111, R126, R142, R144, R151, R160), and leave no request in hand (R169). The model's choices: the levels on the pins
are an operand of RESET (log entry 4), what the ring port has handed on is held in two lists (log entry 6), and the
attention mask's enabled entries are set bits (log entry 9). -/
def Obligations.ResetPutsEveryBlockAtItsValues : Prop :=
  ∀ (dt : Nat) (pins : BitVec 5) (s : State), ∃ t, exec (.reset dt pins) s = .next t
    ∧ t.mode = .standby ∧ t.haltCause = .none ∧ t.lineStop = false
    ∧ t.tracker = { s.tracker with
        count := 0, direction := .forward, hold := 0, pitch := 4000000, pitchTimer := .idle
        marksSeen := 0, pValid := false, aDis := 5632 }
    ∧ t.infeed = { queue := [], latch := false, running := none }
    ∧ (∀ p : SlotNo, t.slot p = { live := none, pending := .none, version := 0 })
    ∧ t.valves = #v[⟨6000, 3500⟩, ⟨4000, 2500⟩, ⟨8000, 5000⟩, ⟨0, 0⟩]
    ∧ t.nq = 16
    ∧ t.supply.state = .normal ∧ t.supply.pm = 0 ∧ t.supply.dipTimer = none ∧ t.supply.levelPair = 1
    ∧ t.supply.dipTolerance = 40 ∧ t.supply.flow = Config.flowDefaults
    ∧ (∀ h : HeadNo, t.report.heads[h].all = [0, 0, 0, 0]) ∧ t.report.part.kinds = [0, 0, 0, 0, 0, 0, 0, 0, 0]
    ∧ (∀ k : Fin 16, t.report.part.rejects[k] = 0)
    ∧ t.report.flags = 0 ∧ t.report.mask = BitVec.allOnes 11 ∧ t.report.faultLimit = 3 ∧ t.summary = false
    ∧ t.ring.pins = pins
    ∧ t.ring.own = (if pins.toNat = 0 ∨ pins.toNat = 31 then none else some pins.toNat)
    ∧ t.ring.relay = [] ∧ t.ring.origin = [] ∧ t.ring.transmitter = none ∧ t.ring.lastServed = .origin
    ∧ t.requestsInHand = [] ∧ t.ticketsInHand = []

/-- At reset the store settles an interrupted operation and keeps everything else, and every head comes out of reset as
R98 and R114 say, with the working entry its store entry gives; a blank one gives the blank defaults (R98, R114, R170,
R173). That the messages in flight to a head are counted, and dropped at a reset, is log entry 5. -/
def Obligations.ResetLoadsTheHeadsFromTheStore : Prop :=
  ∀ (dt : Nat) (pins : BitVec 5) (s : State), ∃ t, exec (.reset dt pins) s = .next t
    ∧ t.store.op = none ∧ t.store.timer = none
    ∧ t.store.marks = (match s.store.op with | some (.markWrite _) => 0 | _ => s.store.marks)
    ∧ (∀ h : HeadNo, t.store.entries[h] =
        match s.store.op with
        | some (.headWrite k _) => if h = k then none else s.store.entries[h]
        | _ => s.store.entries[h])
    ∧ ∀ h : HeadNo,
        t.head h =
          { state := .idle, ctx := none
            clamp := false, gasValve := false, ventValve := true, collet := false
            commandTimer := none, sealTimer := none, sealReached := false, dwellTimer := none
            ventMode := .off, ventTimer := none, haltHold := false
            resetVentTimer := some (s.now + dt + 500000)
            entry := match t.store.entries[h] with
              | some e => e
              | none => { enabled := true, valveClass := 0, bellOffset := 0, depthOffset := 0, diameterOffset := 0 }
            faults := 0, snapshot := none, reading := 0, comparator := none, sealWatch := none
            qualification := none, runCount := 0, qualified := false, inbox := ⟨0, 0, 0, 0⟩ }

/-- RESTART: in STANDBY it has the effect of the reset line with the levels then on the address pins, store operation in
flight included, and its reply DONE, built after the reset with a clear summary, is the first frame the part originates;
in any other mode it is refused (R152, R160). The model's choices: the levels are an operand of the command (log entry 4),
no other request stands before this one in hand (log entry 6), and a part that then has no own address sends the source
address 0 (log entry 13). -/
def Obligations.RestartIsAResetAnsweredDone : Prop :=
  ∀ (dt : Nat) (tag : Byte) (pins : BitVec 5) (s : State), s.Admits tag .restart →
    let own : Nat := if pins.toNat = 31 then 0 else pins.toNat
    (s.mode = .standby → ∃ u, exec (.reset dt pins) s = .next u
      ∧ exec (.restart dt ⟨tag, pins⟩) s = .next
          { u with ring := { u.ring with
              transmitter := some (frameOf 4 (BitVec.ofNat 8 own) tag [18, 0, 0]) } })
    ∧ (s.mode ≠ .standby →
        exec (.restart dt ⟨tag, pins⟩) s = .next ((s.taking dt).answering 18 tag .wrongMode []))

/-! ## The turret tracker -/

/-- A forward edge adds 1 to the turret count, taking 6143 to 0, and sets the direction, whatever the crossing delivers; the
discharge angle, the line configuration, the store and everything in hand stay as they were, and the correction hold
changes only when a suppressed crossing reaches it (R2, R7). -/
def Obligations.ForwardEdgeMovesTheCount : Prop :=
  ∀ (dt : Nat) (lines : Lines) (order : List Arrival) (s : State),
    ∃ t, exec (.forwardEdge dt lines order) s = .next t
      ∧ t.tracker.count = (s.tracker.count + 1) % 6144 ∧ t.tracker.direction = .forward
      ∧ t.tracker.hold =
          (if t.tracker.count = s.tracker.hold ∧ 1 ≤ t.tracker.count then 0 else s.tracker.hold)
      ∧ t.tracker.aDis = s.tracker.aDis ∧ t.valves = s.valves ∧ t.nq = s.nq ∧ t.supply = s.supply
      ∧ t.store = s.store ∧ t.requestsInHand = s.requestsInHand ∧ t.ticketsInHand = s.ticketsInHand
      ∧ t.report.faultLimit = s.report.faultLimit ∧ t.report.mask = s.report.mask
      ∧ t.ring.pins = s.ring.pins ∧ t.ring.own = s.ring.own ∧ t.ring.relay.length ≤ s.ring.relay.length

/-- What a crossing delivers off the pitch marks. One that the correction hold suppresses delivers nothing (R2, R7). One that
carries no phase event only moves the count, and one onto which a single head has an event delivers that head's event alone,
at the angle its recipe copy or the discharge angle gives (R2, R10). -/
def Obligations.ForwardEdgeDeliversBySuppressionAndAngle : Prop :=
  ∀ (dt : Nat) (lines : Lines) (order : List Arrival) (s : State),
    let c := (s.tracker.count + 1) % 6144
    let moved : State := { s with now := s.now + dt, tracker := { s.tracker with count := c, direction := .forward } }
    let hits (h : HeadNo) (e : PhaseEvent) : Prop :=
      ∃ x, (s.head h).ctx = some x ∧ relativeAngle c h = e.angle s.tracker.aDis x.cam
    (1 ≤ c → c ≤ s.tracker.hold →
      exec (.forwardEdge dt lines order) s = .next { moved with
        tracker := { moved.tracker with hold := if c = s.tracker.hold then 0 else s.tracker.hold } })
    ∧ (¬ (1 ≤ c ∧ c ≤ s.tracker.hold) → c % 256 ≠ 0 →
      ((∀ h e, ¬ hits h e) → exec (.forwardEdge dt lines order) s = .next moved)
      ∧ ∀ h e, hits h e → (∀ k f, hits k f → k = h ∧ f = e) →
        exec (.forwardEdge dt lines order) s = .next (takePhase h lines.gauges[h] e moved))

/-- A phase event that reaches a head in a state other than the one it is taken in changes nothing (R74). -/
def Obligations.PhaseEventOutOfItsStateChangesNothing : Prop :=
  ∀ (h : HeadNo) (gauge : Gauge) (e : PhaseEvent) (s : State),
    e.actsIn (s.head h).state = false → takePhase h gauge e s = s

/-- A pitch mark times P: a running timer gives the time since the last forward pitch mark, at most 4,000,000 µs, an idle one
leaves P; the timer restarts, and the second mark since the entry to RUN sets P valid (R13, R14). -/
def Obligations.PitchMarkTimesThePitch : Prop :=
  ∀ (dt : Nat) (lines : Lines) (order : List Arrival) (s : State),
    let c := (s.tracker.count + 1) % 6144
    c % 256 = 0 → s.tracker.hold ≤ 2 →
    ∃ t, exec (.forwardEdge dt lines order) s = .next t
      ∧ t.tracker = { s.tracker with
          count := c
          direction := .forward
          pitch := match s.tracker.pitchTimer with
            | .idle => s.tracker.pitch
            | .running since => if 4000000 < s.now + dt - since then 4000000 else s.now + dt - since
            | .saturated => 4000000
          pitchTimer := .running (s.now + dt)
          marksSeen := if s.tracker.marksSeen < 2 then s.tracker.marksSeen + 1 else s.tracker.marksSeen
          pValid := s.tracker.pValid || decide (s.tracker.marksSeen = 1) }

/-- A crossing onto 256 × h with no phase event is the pitch mark for head h alone: P is timed, then the recipe table
promotes, then the infeed unit decides by the head, the queue and the can (R12, R48, R52). -/
def Obligations.PitchMarkReachesTheTableThenTheInfeed : Prop :=
  ∀ (dt : Nat) (lines : Lines) (h : HeadNo) (s : State),
    let c := (s.tracker.count + 1) % 6144
    c = 256 * h.val → s.tracker.hold ≤ 2 → s.RecipesFit →
    (∀ k : HeadNo, ∀ x ∈ (s.head k).ctx, relativeAngle c k ∉
      [x.cam.sealAngle, x.cam.gasStart, x.cam.gasEnd, x.cam.crimp, x.cam.vent, x.cam.lift, s.tracker.aDis]) →
    exec (.forwardEdge dt lines []) s = .next
      (State.infeedPitch h lines.sensorHigh (State.promoteAtPitch
        { s with
          now := s.now + dt
          tracker := Tracker.pitchMark (s.now + dt) { s.tracker with count := c, direction := .forward } }))

/-- A reverse edge takes 1 from the count, taking 0 to 6143, sets the direction and clears the correction hold; in RUN and
DRAIN it has mode control enter HALT with cause REVERSE (R3, R147). That the HALT is taken in the same step is log entry
7. -/
def Obligations.ReverseEdgeHaltsInRunAndDrain : Prop :=
  ∀ (dt : Nat) (s : State), s.tracker.count < 6144 →
    let moved : State := { s with
      now := s.now + dt
      tracker := { s.tracker with
        count := if s.tracker.count = 0 then 6143 else s.tracker.count - 1, direction := .reverse, hold := 0 } }
    exec (.reverseEdge dt) s = .next
      (if s.mode = .run ∨ s.mode = .drain then moved.enterHalt .reverse else moved)

/-- An index mark that makes no forward correction: at 0 it confirms the count (R4), at 6142 or 6143 running in reverse it
sets the count to 0 (R5), at 1 or 2 it is a backward correction (R6), and from 3 to 6141 an encoder slip (R8), which in
RUN and DRAIN enters HALT (R147). That the slip's HALT is taken in the same step is log entry 7. -/
def Obligations.IndexMarkWithoutForwardCorrection : Prop :=
  ∀ (dt : Nat) (lines : Lines) (order6143 order0 : List Arrival) (s : State),
    s.tracker.count < 6144 → (6142 ≤ s.tracker.count → s.tracker.direction = .reverse) →
    let t := s.tracker
    exec (.indexMark dt lines order6143 order0) s = .next (
      if t.count = 0 then s.waiting dt
      else if t.count ≤ 2 then
        { s with
          now := s.now + dt
          tracker := { t with
            count := 0
            hold := if t.direction = .reverse then t.hold else if t.hold < t.count then t.count else t.hold } }
      else if t.count ≤ 6141 then
        let slipped : State := { s with now := s.now + dt, tracker := { t with count := 0, hold := 0 } }
        if s.mode = .run ∨ s.mode = .drain then slipped.enterHalt .encoderSlip else slipped
      else { s with now := s.now + dt, tracker := { t with count := 0 } })

/-- A forward correction crosses every count it passes as forward edges would, in increasing order: from 6143 one, from 6142
two (R5). -/
def Obligations.ForwardCorrectionCrossesLikeForwardEdges : Prop :=
  ∀ (dt : Nat) (lines : Lines) (order6143 order0 : List Arrival) (s : State),
    s.tracker.direction = .forward → s.tracker.hold ≤ 2 →
    (s.tracker.count = 6143 →
      exec (.indexMark dt lines order6143 order0) s = exec (.forwardEdge dt lines order0) s)
    ∧ (s.tracker.count = 6142 → ∃ u,
      exec (.forwardEdge dt lines order6143) s = .next u
      ∧ exec (.indexMark dt lines order6143 order0) s = exec (.forwardEdge 0 lines order0) u)

/-- The pitch timer saturates P and stays saturated until the next mark; an edge on the sensor sets the can-present latch,
set already or not (R14, R24). -/
def Obligations.PitchSaturationAndCanPresentEdge : Prop :=
  ∀ (dt : Nat) (s : State),
    (∀ since, s.tracker.pitchTimer = .running since →
      exec (.pitchTimerSaturation dt) s = .next { s with
        now := s.now + dt, tracker := { s.tracker with pitch := 4000000, pitchTimer := .saturated } })
    ∧ ((∀ since, s.tracker.pitchTimer ≠ .running since) →
      exec (.pitchTimerSaturation dt) s = .next (s.waiting dt))
    ∧ exec (.canPresentEdge dt) s = .next { s with
        now := s.now + dt, infeed := { s.infeed with latch := true } }

/-- The relative angle of a head is the turret count minus 256 times its number, modulo 6144, so it lies in 0..6143 and is
0 exactly at the head's own pitch mark (R9). A crossing that is not suppressed takes the pitch mark and each head's event
once, whatever order the sender names, the named ones first (R11; that the order is an operand is log entry 3): a pitch
mark goes to the head whose angle is 0 (R12), and a head gets the event that its recipe copy or the discharge angle gives
at its angle, if it holds a context and there is one (R10). -/
def Obligations.ACrossingTakesEachOfItsEventsOnce : Prop :=
  (∀ (c : Nat) (h : HeadNo), c < 6144 →
    relativeAngle c h < 6144 ∧ (relativeAngle c h + 256 * h.val) % 6144 = c
    ∧ (relativeAngle c h = 0 ↔ c = 256 * h.val))
  ∧ (∀ (dt : Nat) (lines : Lines) (order : List Arrival) (s : State),
    let c := (s.tracker.count + 1) % 6144
    ¬ (1 ≤ c ∧ c ≤ s.tracker.hold) →
    exec (.forwardEdge dt lines order) s = .next ((schedule order).foldl (deliver lines)
      { s with now := s.now + dt, tracker := { s.tracker with count := c, direction := .forward } }))
  ∧ (∀ (order : List Arrival), (schedule order).Nodup ∧ (∀ a : Arrival, a ∈ schedule order)
    ∧ (order.Nodup → order <+: schedule order))
  ∧ ∀ (lines : Lines) (h : HeadNo) (s : State),
    (s.tracker.count = 256 * h.val → deliver lines s .pitchMark = s.pitchMark h lines.sensorHigh)
    ∧ (s.tracker.count % 256 ≠ 0 → deliver lines s .pitchMark = s)
    ∧ ((s.head h).ctx = none → deliver lines s (.phase h) = s)
    ∧ ∀ x, (s.head h).ctx = some x →
      let hits (e : PhaseEvent) : Prop := relativeAngle s.tracker.count h = e.angle s.tracker.aDis x.cam
      ((∀ e, ¬ hits e) → deliver lines s (.phase h) = s)
      ∧ ∀ e, hits e → (∀ f, hits f → f = e) → deliver lines s (.phase h) = takePhase h lines.gauges[h] e s

/-! ## The infeed unit -/

/-- A ticket is taken through its checks in order: malformed (R19), its serial in use (R21), the queue full (R22); else it
joins the queue's tail with fill 0 absent and its temperature in the working range (R20). That a ticket stands in hand until
it is taken, first come first taken, is log entry 6: out of its turn it changes nothing. -/
def Obligations.InfeedTicketChecksInOrder : Prop :=
  ∀ (dt : Nat) (f : Byte) (p : List Byte) (s : State),
    let u : State := { s with now := s.now + dt, ticketsInHand := s.ticketsInHand.tail }
    let serial := fieldAt p 0 3
    let product := byteAt p 3
    let fill := fieldAt p 4 2
    let temp := signedAt p 6 2
    let part := s.report.part
    ((∃ x ∈ s.ticketsInHand.head?, x ≠ (f, p)) → exec (.infeedTicket dt f p) s = .next (s.waiting dt))
    ∧ (s.ring.own.isSome = true → (∀ x ∈ s.ticketsInHand.head?, x = (f, p)) →
      exec (.infeedTicket dt f p) s = .next (
      if p.length ≠ 8 ∨ serial = 0 ∨ serial = 16777215 ∨ 15 < product ∨ 9999 < fill then
        { u with report := { s.report with part := { part with malformed := bump part.malformed } } }
      else if (∃ t ∈ s.infeed.queue, t.serial = serial) ∨ (∃ h : HeadNo, ∃ c ∈ (s.head h).ctx, c.serial = serial) then
        { u with report := { s.report with
            part := { part with duplicates := bump part.duplicates }, flags := s.report.flags ||| 0x002 } }
      else if s.infeed.queue.length < 8 then
        { u with infeed := { s.infeed with queue := s.infeed.queue ++
            [{ serial := serial
               product := Fin.ofNat 16 product
               fill := if fill = 0 then none else some fill
               temp := if temp = -32768 then none
                 else if temp < -100 then some (-100) else if 300 < temp then some 300 else some temp
               suspect := f.toNat.testBit 0 }] } }
      else
        { u with report := { s.report with
            part := { part with overruns := bump part.overruns }, flags := s.report.flags ||| 0x001 } }))

/-- A waiting ticket at an IDLE head in RUN: with no can it goes out VOID, with a can it goes out HEAD_DISABLED or
NO_RECIPE, or is bound into the head with a copy of the recipe, its version and its committed dose, and becomes the
running product (R25, R27 to R30). -/
def Obligations.PitchMarkWithATicketInRun : Prop :=
  ∀ (h : HeadNo) (high : Bool) (s : State) (t : Ticket) (rest : List Ticket),
    s.mode = .run → (s.head h).state = .idle → s.infeed.queue = t :: rest →
    let u : State := { s with infeed := { s.infeed with queue := rest, latch := false } }
    let hd := s.head h
    (s.infeed.latch = false → high = false → State.infeedPitch h high s = u.emitAtOnce t h none)
    ∧ (s.infeed.latch = true ∨ high = true →
      (hd.entry.enabled = false → State.infeedPitch h high s = u.emitAtOnce t h (some .headDisabled))
      ∧ (hd.entry.enabled = true → (s.slot t.product).live = none →
        State.infeedPitch h high s = u.emitAtOnce t h (some .noRecipe))
      ∧ (∀ r, hd.entry.enabled = true → (s.slot t.product).live = some r →
        State.infeedPitch h high s = State.setHead h
          { hd with
            state := .bound
            ctx := some
              { serial := t.serial, product := t.product, fill := t.fill, temp := t.temp, suspect := t.suspect
                gas := r.gas, cam := r.cam, version := (s.slot t.product).version
                dose := committedDose r.gas t.fill t.temp t.suspect
                flags := ⟨doseClamped r.gas t.fill t.temp t.suspect, false, false, false⟩
                reasons := [], start := none, finish := none, peak := none, settle := none, crimp := none }
            clamp := false, gasValve := false, ventValve := false, collet := false
            ventMode := .off, resetVentTimer := none, haltHold := false }
          { s with infeed := { queue := rest, latch := false, running := some t.product } }))

/-- No ticket at an IDLE head in RUN: with no can nothing happens but the clearing of the latch; an untracked can is counted
and flagged first, then bound on the running product's recipe, or unprocessed when the head is disabled, there is no running
product or its slot has no live entry (R25, R30, R31, R34, R35). -/
def Obligations.PitchMarkWithoutATicketInRun : Prop :=
  ∀ (h : HeadNo) (high : Bool) (s : State),
    s.mode = .run → (s.head h).state = .idle → s.infeed.queue = [] →
    let u : State := { s with infeed := { s.infeed with latch := false } }
    let counted : State := { u with report := { s.report with
      part := { s.report.part with untracked := bump s.report.part.untracked }, flags := s.report.flags ||| 0x400 } }
    let hd := s.head h
    (s.infeed.latch = false → high = false → State.infeedPitch h high s = u)
    ∧ (s.infeed.latch = true ∨ high = true →
      (hd.entry.enabled = false ∨ s.infeed.running = none
        ∨ (∃ p, s.infeed.running = some p ∧ (s.slot p).live = none) → State.infeedPitch h high s = counted)
      ∧ (∀ p r, hd.entry.enabled = true → s.infeed.running = some p → (s.slot p).live = some r →
        State.infeedPitch h high s = State.setHead h
          { hd with
            state := .bound
            ctx := some
              { serial := 16777215, product := p, fill := none, temp := none, suspect := false
                gas := r.gas, cam := r.cam, version := (s.slot p).version
                dose := committedDose r.gas none none false
                flags := ⟨doseClamped r.gas none none false, false, false, false⟩
                reasons := [.untracked], start := none, finish := none, peak := none, settle := none, crimp := none }
            clamp := false, gasValve := false, ventValve := false, collet := false
            ventMode := .off, resetVentTimer := none, haltHold := false }
          counted))

/-- The pitch marks that make no bind. At a head that is not IDLE the mark clears the latch and is counted, in every mode
(R25, R26). At an IDLE head in STANDBY, DRAIN or HALT a ticket goes out NOT_RUNNING with its can and VOID without, and a can
without a ticket is counted and flagged (R25, R32, R34). -/
def Obligations.PitchMarkWithoutABind : Prop :=
  ∀ (h : HeadNo) (high : Bool) (s : State),
    ((s.head h).state ≠ .idle →
      State.infeedPitch h high s = { s with
        infeed := { s.infeed with latch := false }
        report := { s.report with part := { s.report.part with headBusy := bump s.report.part.headBusy } } })
    ∧ ((s.head h).state = .idle → s.mode ≠ .run →
    State.infeedPitch h high s =
      match s.infeed.queue, (s.infeed.latch || high) with
      | t :: rest, true =>
        State.emitAtOnce t h (some .notRunning) { s with infeed := { s.infeed with queue := rest, latch := false } }
      | t :: rest, false =>
        State.emitAtOnce t h none { s with infeed := { s.infeed with queue := rest, latch := false } }
      | [], true => { s with
          infeed := { s.infeed with latch := false }
          report := { s.report with
            part := { s.report.part with untracked := bump s.report.part.untracked }
            flags := s.report.flags ||| 0x400 } }
      | [], false => { s with infeed := { s.infeed with latch := false } })

/-- A ticket emitted at once carries its serial, product and head, VOID with no reason or REJECT with its one, and nothing
else; it raises the VOID counter or its reason's counter and is offered to the origin queue (R33, R133, R135). Raising a
counter adds 1, and leaves one that stands at 4,294,967,295 (R134). -/
def Obligations.TicketEmittedAtOnce : Prop :=
  ∀ (t : Ticket) (h : HeadNo) (s : State),
    let bare (v : Verdict) (rs : List Reason) : DischargeTicket :=
      { serial := t.serial, product := t.product, head := h, version := none, fill := none, temp := none
        suspect := none, flags := none, verdict := v, reasons := rs, dose := none, gassing := none
        settle := none, crimp := none, summary := s.summary }
    let part := s.report.part
    State.emitAtOnce t h none s = State.offerTicket (bare .void [])
      { s with report := { s.report with part := { part with voids := bump part.voids } } }
    ∧ (∀ r : Reason, State.emitAtOnce t h (some r) s = State.offerTicket (bare .reject [r])
      { s with report := { s.report with
          part := { part with rejects := part.rejects.set r.index (bump part.rejects[r.index]) } } })
    ∧ ∀ n : Nat, bump n = if n < 4294967295 then n + 1 else n

/-! ## The recipe table -/

/-- RECIPE-GAS and RECIPE-CAM: a half with a field outside its range or out of its order, or a product above 15, is
refused BAD_FIELD with the slot as it was; a half that passes takes its place in the pending entry by the tables of R43
and R44, is promoted at once in STANDBY and HALT if that completes the entry, and is answered DONE with the slot as it
then stands (R40 to R44, R49). What is in hand is log entry 6. -/
def Obligations.RecipeHalvesAreWritten : Prop :=
  ∀ (dt : Nat) (tag : Byte) (product : Nat) (g : GasHalf) (c : CamHalf) (s : State),
    let u := s.taking dt
    let gasPasses : Prop :=
      (500 ≤ g.d0 ∧ g.d0 ≤ 15000) ∧ (500 ≤ g.dMin ∧ g.dMin ≤ 15000) ∧ (500 ≤ g.dMax ∧ g.dMax ≤ 15000)
      ∧ g.dTol ≤ 2000 ∧ (500 ≤ g.f0 ∧ g.f0 ≤ 9999) ∧ g.kh ≤ 400 ∧ (-100 ≤ g.t0 ∧ g.t0 ≤ 300)
      ∧ (-200 ≤ g.kt ∧ g.kt ≤ 200) ∧ (10000 ≤ g.tMax ∧ g.tMax ≤ 2000000)
      ∧ (50 ≤ g.sealLevel ∧ g.sealLevel ≤ 600) ∧ (2 ≤ g.sealTime ∧ g.sealTime ≤ 100)
      ∧ (1 ≤ g.overStep ∧ g.overStep ≤ 15) ∧ g.settleMin ≤ 1500 ∧ g.settleMax ≤ 1500
      ∧ (g.dMin ≤ g.d0 ∧ g.d0 ≤ g.dMax) ∧ g.settleMin ≤ g.settleMax
    let camPasses : Prop :=
      1 ≤ c.sealAngle ∧ c.sealAngle < c.gasStart ∧ c.gasStart < c.gasEnd ∧ c.gasEnd < c.crimp ∧ c.crimp < c.vent
      ∧ c.vent < c.lift ∧ c.lift < s.tracker.aDis ∧ c.lift ≤ 6143
      ∧ (5 ≤ c.dwell ∧ c.dwell ≤ 200) ∧ c.depthMin ≤ 9999 ∧ c.depthMax ≤ 9999 ∧ c.diameterMin ≤ 9999
      ∧ c.diameterMax ≤ 9999 ∧ (1 ≤ c.force ∧ c.force ≤ 20000) ∧ c.pulses ≤ 15
      ∧ (2 ≤ c.ventPeriod ∧ c.ventPeriod ≤ 50) ∧ (1 ≤ c.ventOn ∧ c.ventOn ≤ c.ventPeriod) ∧ c.ventClear ≤ 200
      ∧ c.depthMin ≤ c.depthMax ∧ c.diameterMin ≤ c.diameterMax
    let byGas : Prop := s.Admits tag (.recipeGas product g)
    let byCam : Prop := s.Admits tag (.recipeCam product c)
    let atOnce (sl : Slot) : Slot :=
      match sl.pending with
      | .complete g' c' =>
        if s.mode = .standby ∨ s.mode = .halt then
          { live := some ⟨g', c'⟩, pending := .none, version := (sl.version + 1) % 256 }
        else sl
      | _ => sl
    (byGas → ¬ (product ≤ 15 ∧ gasPasses) →
      exec (.recipeGas dt tag product g) s = .next (u.answering 3 tag .badField []))
    ∧ (byCam → ¬ (product ≤ 15 ∧ camPasses) →
      exec (.recipeCam dt tag product c) s = .next (u.answering 4 tag .badField []))
    ∧ ∀ p : SlotNo, product = p.val →
      (byGas → gasPasses →
        let sl := atOnce { s.slot p with pending :=
          match (s.slot p).pending with
          | .none => .gasOnly g
          | .gasOnly _ => .gasOnly g
          | .camOnly c' => .complete g c'
          | .complete _ c' => .complete g c'
          | .removal => .gasOnly g }
        exec (.recipeGas dt tag product g) s =
          .next ({ u with recipes := s.recipes.set p sl }.answering 3 tag .done sl.record))
      ∧ (byCam → camPasses →
        let sl := atOnce { s.slot p with pending :=
          match (s.slot p).pending with
          | .none => .camOnly c
          | .camOnly _ => .camOnly c
          | .gasOnly g' => .complete g' c
          | .complete g' _ => .complete g' c
          | .removal => .camOnly c }
        exec (.recipeCam dt tag product c) s =
          .next ({ u with recipes := s.recipes.set p sl }.answering 4 tag .done sl.record))

/-- RECIPE-DROP sets the pending state to NONE; RECIPE-CLEAR is refused EMPTY where there is nothing to clear, else asks
for a removal, which STANDBY and HALT make at once (R45, R46, R47, R49). A product above 15 is refused by both (R162).
What is in hand is log entry 6. -/
def Obligations.RecipeDropAndClear : Prop :=
  ∀ (dt : Nat) (tag : Byte) (product : Nat) (s : State),
    let u := s.taking dt
    let byDrop : Prop := s.Admits tag (.recipeDrop product)
    let byClear : Prop := s.Admits tag (.recipeClear product)
    (15 < product →
      (byDrop → exec (.recipeDrop dt tag product) s = .next (u.answering 5 tag .badField []))
      ∧ (byClear → exec (.recipeClear dt tag product) s = .next (u.answering 6 tag .badField [])))
    ∧ ∀ p : SlotNo, product = p.val →
      (byDrop →
       let sl : Slot := { s.slot p with pending := .none }
       exec (.recipeDrop dt tag product) s =
        .next ({ u with recipes := s.recipes.set p sl }.answering 5 tag .done sl.record))
      ∧ (byClear → (s.slot p).live = none → (s.slot p).pending = .none →
        exec (.recipeClear dt tag product) s = .next (u.answering 6 tag .empty []))
      ∧ (byClear → ¬ ((s.slot p).live = none ∧ (s.slot p).pending = .none) →
        let sl : Slot :=
          if s.mode = .standby ∨ s.mode = .halt then
            { live := none, pending := .none, version := ((s.slot p).version + 1) % 256 }
          else { s.slot p with pending := .removal }
        exec (.recipeClear dt tag product) s =
          .next ({ u with recipes := s.recipes.set p sl }.answering 6 tag .done sl.record))

/-- RECIPE-READ returns the slot record and then the named half if it is held, field by field in its request layout (R161),
and refuses by the cases of R54; it changes nothing. The model's choices: the half goes out as its 27 bytes without the
product byte (log entry 10, DEDUCED), bits 3 to 6 of the slot record are 0 (log entry 20), and what is in hand is log entry
6. -/
def Obligations.RecipeReadReturnsAHeldHalf : Prop :=
  ∀ (dt : Nat) (tag : Byte) (product source half : Nat) (s : State),
    s.Admits tag (.recipeRead product source half) →
    let u := s.taking dt
    let record (sl : Slot) : List Byte :=
      [BitVec.ofNat 8 ((if sl.live.isSome then 128 else 0) + match sl.pending with
        | .none => 0 | .gasOnly _ => 1 | .camOnly _ => 2 | .complete _ _ => 3 | .removal => 4), BitVec.ofNat 8 sl.version]
    let gasLayout (g : GasHalf) : List Byte :=
      bytesOf 2 g.d0 ++ bytesOf 2 g.dMin ++ bytesOf 2 g.dMax ++ bytesOf 2 g.dTol ++ bytesOf 2 g.f0 ++ bytesOf 2 g.kh
      ++ signedBytes 2 g.t0 ++ signedBytes 2 g.kt ++ bytesOf 3 g.tMax ++ bytesOf 2 g.sealLevel
      ++ bytesOf 1 g.sealTime ++ bytesOf 1 g.overStep ++ bytesOf 2 g.settleMin ++ bytesOf 2 g.settleMax
    let camLayout (c : CamHalf) : List Byte :=
      bytesOf 2 c.sealAngle ++ bytesOf 2 c.gasStart ++ bytesOf 2 c.gasEnd ++ bytesOf 2 c.crimp ++ bytesOf 2 c.vent
      ++ bytesOf 2 c.lift ++ bytesOf 1 c.dwell ++ bytesOf 2 c.depthMin ++ bytesOf 2 c.depthMax
      ++ bytesOf 2 c.diameterMin ++ bytesOf 2 c.diameterMax ++ bytesOf 2 c.force ++ bytesOf 1 c.pulses
      ++ bytesOf 1 c.ventPeriod ++ bytesOf 1 c.ventOn ++ bytesOf 1 c.ventClear
    let answer (r : Result) (data : List Byte) : Prop :=
      exec (.recipeRead dt tag product source half) s = .next (u.answering 7 tag r data)
    (15 < product ∨ 1 < source ∨ 1 < half → answer .badField [])
    ∧ ∀ p : SlotNo, product = p.val → source ≤ 1 → half ≤ 1 →
      let sl := s.slot p
      (source = 0 → sl.live = none → answer .empty (record sl))
      ∧ (∀ r, source = 0 → sl.live = some r →
          answer .done (record sl ++ if half = 0 then gasLayout r.gas else camLayout r.cam))
      ∧ (source = 1 →
        match sl.pending with
        | .none => answer .empty (record sl)
        | .removal => answer .empty (record sl)
        | .gasOnly g => if half = 0 then answer .done (record sl ++ gasLayout g) else answer .empty (record sl)
        | .camOnly c => if half = 0 then answer .empty (record sl) else answer .done (record sl ++ camLayout c)
        | .complete g c => answer .done (record sl ++ if half = 0 then gasLayout g else camLayout c))

/-- A pitch mark in RUN or DRAIN promotes every slot whose pending state is COMPLETE or REMOVAL and no other, whatever the
head and the infeed do; outside RUN and DRAIN it promotes none (R47, R48). -/
def Obligations.PitchMarkPromotes : Prop :=
  ∀ (h : HeadNo) (high : Bool) (s : State) (p : SlotNo),
    (s.pitchMark h high).slot p =
      if s.mode = .run ∨ s.mode = .drain then
        match (s.slot p).pending with
        | .complete g c => { live := some ⟨g, c⟩, pending := .none, version := ((s.slot p).version + 1) % 256 }
        | .removal => { live := none, pending := .none, version := ((s.slot p).version + 1) % 256 }
        | _ => s.slot p
      else s.slot p

/-! ## The dose calculator -/

/-- `round` takes the nearest whole number with a half away from zero, and the committed dose is the raw dose brought into
the recipe's limits, DOSE_CLAMPED exactly when it differs (R57 to R60). -/
def Obligations.CommittedDoseIsTheClampedRawDose : Prop :=
  (∀ (a : Int) (b : Nat), 0 < b →
    (0 ≤ a → 2 * a - b < 2 * (roundDiv a b * b) ∧ 2 * (roundDiv a b * b) ≤ 2 * a + b)
    ∧ (a ≤ 0 → 2 * a - b ≤ 2 * (roundDiv a b * b) ∧ 2 * (roundDiv a b * b) < 2 * a + b))
  ∧ ∀ (g : GasHalf) (fill : Option Nat) (temp : Option Int) (suspect : Bool), gasValid g →
    let ch : Int :=
      match fill with
      | some f => if suspect then 0 else roundDiv (g.kh * ((g.f0 : Int) - f)) 10
      | none => 0
    let ct : Int :=
      match temp with
      | some t => roundDiv (g.kt * (g.t0 - t)) 10
      | none => 0
    let raw : Int := g.d0 + ch + ct
    let d : Int := committedDose g fill temp suspect
    (raw < g.dMin → d = g.dMin) ∧ (g.dMax < raw → d = g.dMax) ∧ (g.dMin ≤ raw → raw ≤ g.dMax → d = raw)
    ∧ (g.dMin ≤ d ∧ d ≤ g.dMax) ∧ (doseClamped g fill temp suspect = true ↔ d ≠ raw)

/-- What a gas start works out. The flow is that of the highest band whose floor is at or below Pm, or of band 0 where there
is none (R63, R122). The open time is the shortest that delivers the dose at full flow; the command time adds the lag
allowance, is at least 1000 µs, and is limited to Tmax with DOSE_LIMITED (R64). With P valid, WINDOW_SHORT is set exactly
when the command is above the window (R65). The advisory is the speed of the shortest pitch whose window holds the command,
at most 9,999 (R66). -/
def Obligations.GasStartFiguresBySteps : Prop :=
  (∀ (table : Vector FlowBand 8) (pm : Nat),
    (∀ k : Fin 8, table[k].floor ≤ pm → (∀ j : Fin 8, k < j → pm < table[j].floor) → flowAt table pm = table[k].flow)
    ∧ ((∀ k : Fin 8, pm < table[k].floor) → flowAt table pm = table[0].flow))
  ∧ (∀ (dose flow lagOpen lagClose tMax : Nat), 0 < flow →
    let tOpen := openTime dose flow
    let allowed : Int := (tOpen : Int) + lagOpen - lagClose
    let before : Int := if allowed < 1000 then 1000 else allowed
    (dose * 10000 ≤ tOpen * flow ∧ ∀ n, dose * 10000 ≤ n * flow → tOpen ≤ n)
    ∧ (commandTime dose flow lagOpen lagClose tMax : Int) = (if (tMax : Int) < before then (tMax : Int) else before)
    ∧ (doseLimited dose flow lagOpen lagClose tMax = true ↔ (tMax : Int) < before))
  ∧ ∀ (cam : CamHalf) (pitch command : Nat) (pValid : Bool), cam.gasStart < cam.gasEnd →
    let counts := cam.gasEnd - cam.gasStart
    window cam pitch = counts * pitch / 256
    ∧ (windowShort cam pitch pValid command = true ↔ pValid = true ∧ counts * pitch / 256 < command)
    ∧ ∃ need, (command * 256 ≤ need * counts ∧ ∀ n, command * 256 ≤ n * counts → need ≤ n)
      ∧ advisory cam command = if 9999 < 60000000 / need then 9999 else 60000000 / need

/-- What the calculator promises: at the advised speed the window is at least as long as the command (R66), and a gassing
that runs to its own command timer, not limited by Tmax, delivers at least its dose by the estimate and never earns UNDERDOSE
(R64, R68, R69). -/
def Obligations.TheCalculatorsPromises : Prop :=
  (∀ (cam : CamHalf) (command : Nat), cam.gasStart < cam.gasEnd → 0 < command →
    advisory cam command ≤ 9999
    ∧ (0 < advisory cam command → command ≤ window cam (60000000 / advisory cam command)))
  ∧ ∀ (now dose dTol tMax flow : Nat) (cam : CamHalf) (valve : ValveClass), 0 < flow →
    doseLimited dose flow valve.lagOpen valve.lagClose tMax = false →
    let g := gasStartFigures now dose tMax cam flow valve
    dose ≤ deliveredEstimate g g.command ∧ isUnderdose dose dTol (deliveredEstimate g g.command) = false

/-! ## The head sequencers -/

/-- The gas-start event in SEALED: outside RUN and DRAIN the head settles ABORTED, with the supply LOW it settles
SUPPLY_LOW, and else the gassing begins with its figures, flags, comparator, seal watch, valve and timers (R63, R67, R76,
R103, R121). -/
def Obligations.GasStartHasThreeOutcomes : Prop :=
  ∀ (h : HeadNo) (gauge : Gauge) (s : State) (c : Context),
    (s.head h).state = .sealed → (s.head h).ctx = some c →
    let hd := s.head h
    let valve := s.valves[hd.entry.valveClass]
    let flow := flowAt s.supply.flow s.supply.pm
    let command := commandTime c.dose flow valve.lagOpen valve.lagClose c.gas.tMax
    takePhase h gauge .gasStart s =
      if s.mode = .standby ∨ s.mode = .halt then
        s.setHead h { hd with state := .settling, ctx := some { c with reasons := addReason .aborted c.reasons } }
      else if s.supply.state = .low then
        s.setHead h { hd with state := .settling, ctx := some { c with reasons := addReason .supplyLow c.reasons } }
      else s.setHead h { hd with
        state := .gassing
        ctx := some { c with
          start := some
            { openedAt := s.now, command := command, advisory := advisory c.cam command, flow := flow
              lagOpen := valve.lagOpen, lagClose := valve.lagClose }
          flags := { c.flags with
            doseLimited := c.flags.doseLimited || doseLimited c.dose flow valve.lagOpen valve.lagClose c.gas.tMax
            windowShort := c.flags.windowShort || windowShort c.cam s.tracker.pitch s.tracker.pValid command
            supplyDip := c.flags.supplyDip || decide (s.supply.state = .dip) }
          peak := some 0 }
        comparator := some (c.gas.overStep * 100)
        sealWatch := some c.gas.sealLevel
        sealReached := false
        gasValve := true
        commandTimer := some (s.now + command)
        sealTimer := some (s.now + c.gas.sealTime * 1000) }

/-- The first end cause taken in GASSING ends it: the valve closes, both timers are cancelled, comparator and seal watch are
off, t_el, the cause, the estimate and the reasons are in the context, and the head settles; no other head is touched (R68,
R69, R77 to R82, R105). Adding a reason puts it into the set and leaves the others there (R128). That a head's messages are
counted in flight is log entry 5. -/
def Obligations.TheFirstEndCauseEndsTheGassing : Prop :=
  ∀ (dt : Nat) (h : HeadNo) (gauge : Gauge) (s : State) (c : Context) (g : GasStart),
    (s.head h).state = .gassing → (s.head h).ctx = some c → c.start = some g →
    let hd := s.head h
    let passed := s.now + dt - g.openedAt
    let ended (cause : GasEndCause) (tEl : Nat) (add : List Reason → List Reason) (inbox : Inbox) : State :=
      let estimate := (tEl + g.lagClose - g.lagOpen) * g.flow / 10000
      (s.waiting dt).setHead h { hd with
        state := .settling, gasValve := false, commandTimer := none, sealTimer := none
        comparator := none, sealWatch := none, inbox := inbox
        ctx := some { c with
          finish := some ⟨tEl, cause, estimate⟩
          reasons := add (if (estimate : Int) < (c.dose : Int) - c.gas.dTol then addReason .underdose c.reasons
            else c.reasons) } }
    exec (.overpressureTrip dt h) s = .next
        (ended .overpressure passed (addReason .overpressure) { hd.inbox with trips := hd.inbox.trips - 1 })
    ∧ exec (.lowEvent dt h) s = .next
        (ended .supplyLow passed (addReason .supplyLow) { hd.inbox with lows := hd.inbox.lows - 1 })
    ∧ (hd.commandTimer.isSome = true →
        exec (.commandTimerExpiry dt h) s = .next (ended .dosed g.command id hd.inbox))
    ∧ (hd.sealTimer.isSome = true → hd.sealReached = false →
        exec (.sealCheckTimerExpiry dt h) s = .next (ended .noSeal passed (addReason .noSeal) hd.inbox))
    ∧ takePhase h gauge .gasEnd (s.waiting dt) = ended .windowCut passed (addReason .windowCut) hd.inbox
    ∧ ∀ (q r : Reason) (rs : List Reason), q ∈ addReason r rs ↔ q = r ∨ q ∈ rs

/-- A seal-level report in GASSING sets the seal-reached mark, and the seal-check timer's expiry with the mark set changes
nothing but the timer; outside GASSING the report, the expiries, a trip and a LOW event change nothing of the head but the
count of its messages (R77, R79, R80, R82; the count is log entry 5). -/
def Obligations.SealReachedAndEventsOutsideGassing : Prop :=
  ∀ (dt : Nat) (h : HeadNo) (s : State),
    let hd := s.head h
    let became (hd' : Head) : State := (s.waiting dt).setHead h hd'
    (hd.state = .gassing →
      exec (.sealLevelReport dt h) s = .next (became { hd with
        sealReached := true, inbox := { hd.inbox with sealReports := hd.inbox.sealReports - 1 } })
      ∧ (hd.sealReached = true →
        exec (.sealCheckTimerExpiry dt h) s = .next (became { hd with sealTimer := none })))
    ∧ (hd.state ≠ .gassing →
      exec (.sealLevelReport dt h) s = .next (became { hd with
        inbox := { hd.inbox with sealReports := hd.inbox.sealReports - 1 } })
      ∧ exec (.overpressureTrip dt h) s = .next (became { hd with
        inbox := { hd.inbox with trips := hd.inbox.trips - 1 } })
      ∧ exec (.lowEvent dt h) s = .next (became { hd with inbox := { hd.inbox with lows := hd.inbox.lows - 1 } })
      ∧ exec (.commandTimerExpiry dt h) s = .next (s.waiting dt)
      ∧ exec (.sealCheckTimerExpiry dt h) s = .next (s.waiting dt))

/-- The seal angle in BOUND clamps the bell (R75); the crimp angle in SETTLING records the settle pressure, tests it for a
can whose gassing began, and begins the crimp with its dwell and force qualification (R85, R107, R108); the lift angle in
VENTING tests the bell, ends the vent and lifts (R90). -/
def Obligations.SealCrimpAndLiftAngles : Prop :=
  ∀ (h : HeadNo) (gauge : Gauge) (s : State) (c : Context), (s.head h).ctx = some c →
    let hd := s.head h
    (hd.state = .bound →
      takePhase h gauge .sealing s = s.setHead h { hd with clamp := true, state := .sealed })
    ∧ (hd.state = .settling →
      takePhase h gauge .crimp s = s.setHead h { hd with
        ctx := some { c with
          settle := some hd.reading
          reasons :=
            if c.start.isSome = true ∧ (hd.reading < c.gas.settleMin ∨ c.gas.settleMax < hd.reading) then
              addReason .settleRange c.reasons
            else c.reasons }
        collet := true
        dwellTimer := some (s.now + c.cam.dwell * 1000)
        qualification := some ⟨c.cam.force, s.nq⟩, runCount := 0, qualified := false
        state := .crimping })
    ∧ (hd.state = .venting →
      takePhase h gauge .lift s = s.setHead h { hd with
        ctx := some { c with
          reasons := if c.cam.ventClear < hd.reading then addReason .ventIncomplete c.reasons else c.reasons }
        ventValve := false, ventMode := .off, ventTimer := none, clamp := false
        state := .lifted })

/-- The dwell timer's expiry ends a crimp: the collet goes off, the gauge and the qualified mark are recorded and tested, and
the head is CRIMPED, or VENTING held on if its halt hold is set. The vent angle in CRIMPING cuts the crimp with CRIMP_SHORT
alone and vents (R86, R87, R93, R110, R112, R113). -/
def Obligations.TheCrimpEndsByDwellOrVentAngle : Prop :=
  ∀ (dt : Nat) (h : HeadNo) (gauge : Gauge) (s : State) (c : Context),
    (s.head h).state = .crimping → (s.head h).ctx = some c → (s.head h).dwellTimer.isSome = true →
    let hd := s.head h
    let kept (v : Int) : Nat := if v < 0 then 0 else if 9999 < v then 9999 else v.toNat
    let depth := kept (gauge.depth + hd.entry.depthOffset)
    let diameter := kept (gauge.diameter + hd.entry.diameterOffset)
    let addIf (p : Prop) [Decidable p] (r : Reason) (rs : List Reason) : List Reason := if p then addReason r rs else rs
    let figures (rs : List Reason) : Context := { c with crimp := some ⟨depth, diameter, hd.qualified⟩, reasons := rs }
    let tested := figures
      (addIf (hd.qualified = false) .crimpForce
        (addIf (diameter < c.cam.diameterMin ∨ c.cam.diameterMax < diameter) .crimpDiameter
          (addIf (depth < c.cam.depthMin ∨ c.cam.depthMax < depth) .crimpDepth c.reasons)))
    let short := figures (addReason .crimpShort c.reasons)
    let released : Head := { hd with collet := false, dwellTimer := none, qualification := none, runCount := 0 }
    let heldOn (x : Context) : Head :=
      { released with state := .venting, ctx := some x, ventValve := true, ventMode := .held, ventTimer := none }
    exec (.dwellTimerExpiry dt h gauge) s = .next ((s.waiting dt).setHead h
      (if hd.haltHold then heldOn tested else { released with state := .crimped, ctx := some tested }))
    ∧ takePhase h gauge .vent s = s.setHead h
        (if hd.haltHold ∨ c.cam.pulses = 0 then heldOn short
         else { released with
           state := .venting, ctx := some short, ventValve := true
           ventMode := .pulsing c.cam.pulses true, ventTimer := some (s.now + c.cam.ventOn * 1000) })

/-- The vent: in CRIMPED the vent angle begins it, held with a pulse count of 0, else pulsing (R88); each expiry of the pulse
timer moves the pulse along until it is held (R89); the reset vent's expiry turns the vent off (R99). An expiry with no timer
running changes nothing. That an off phase of length zero is ended by an expiry of its own is log entry 11 (DEDUCED). -/
def Obligations.TheVentPulsesThenHolds : Prop :=
  ∀ (dt : Nat) (h : HeadNo) (gauge : Gauge) (s : State) (c : Context),
    let hd := s.head h
    let became (hd' : Head) : Prop := exec (.ventPulseTimerExpiry dt h) s = .next ((s.waiting dt).setHead h hd')
    (hd.state = .crimped → hd.ctx = some c →
      takePhase h gauge .vent s = s.setHead h (
        if c.cam.pulses = 0 then { hd with state := .venting, ventValve := true, ventMode := .held, ventTimer := none }
        else { hd with
          state := .venting, ventValve := true, ventMode := .pulsing c.cam.pulses true
          ventTimer := some (s.now + c.cam.ventOn * 1000) }))
    ∧ (∀ left, hd.state = .venting → hd.ctx = some c → hd.ventTimer.isSome = true →
      (hd.ventMode = .pulsing left true → became { hd with
        ventValve := false, ventMode := .pulsing left false
        ventTimer := some (s.now + dt + (c.cam.ventPeriod - c.cam.ventOn) * 1000) })
      ∧ (hd.ventMode = .pulsing left false → 1 < left → became { hd with
        ventValve := true, ventMode := .pulsing (left - 1) true
        ventTimer := some (s.now + dt + c.cam.ventOn * 1000) })
      ∧ (hd.ventMode = .pulsing left false → left ≤ 1 → became { hd with
        ventValve := true, ventMode := .held, ventTimer := none }))
    ∧ (hd.ventTimer = none → exec (.ventPulseTimerExpiry dt h) s = .next (s.waiting dt))
    ∧ exec (.resetVentTimerExpiry dt h) s = .next (
        if hd.resetVentTimer.isSome then
          (s.waiting dt).setHead h { hd with ventValve := false, resetVentTimer := none }
        else s.waiting dt)

/-- HALT taken at a head acts by the table of R92: IDLE and LIFTED are left, a gassing ends ABORTED with the gas valve
off, a crimp is finished under a halt hold, and every other can vents held on with ABORTED; the clamp keeps its value
(R77, R92). That the HALTs in flight to a head are counted, and this one is taken off the count, is log entry 5. -/
def Obligations.HaltAtAHeadByItsState : Prop :=
  ∀ (dt : Nat) (h : HeadNo) (s : State),
    let hd : Head := { s.head h with inbox := { (s.head h).inbox with halts := (s.head h).inbox.halts - 1 } }
    let became (hd' : Head) : Prop := exec (.headHalt dt h) s = .next ((s.waiting dt).setHead h hd')
    (hd.state = .idle ∨ hd.state = .lifted → became hd)
    ∧ ∀ c, hd.ctx = some c →
      (hd.state ∈ [HeadState.bound, .sealed, .settling, .crimped, .venting] → became { hd with
        state := .venting, ctx := some { c with reasons := addReason .aborted c.reasons }
        ventValve := true, ventMode := .held, ventTimer := none })
      ∧ (hd.state = .crimping → became { hd with
        ctx := some { c with reasons := addReason .aborted c.reasons }, haltHold := true })
      ∧ (∀ g, hd.state = .gassing → c.start = some g →
        let tEl := s.now + dt - g.openedAt
        let estimate := (tEl + g.lagClose - g.lagOpen) * g.flow / 10000
        became { hd with
          state := .venting, gasValve := false, commandTimer := none, sealTimer := none
          comparator := none, sealWatch := none
          ventValve := true, ventMode := .held, ventTimer := none
          ctx := some { c with
            finish := some ⟨tEl, .aborted, estimate⟩
            reasons := addReason .aborted
              (if (estimate : Int) < (c.dose : Int) - c.gas.dTol then addReason .underdose c.reasons
               else c.reasons) } })

/-- A can discharged in LIFTED: the fault accounting of R137 and R138 comes first, then the verdict, the ticket with the
summary as it then stands, its counting, and its offer to the origin queue; the head is IDLE without a context, and a
drain that finds no context left passes to STANDBY, whose entry promotes (R50, R91, R129, R131, R132, R135, R149). The
ticket has its gassing fields exactly when the gassing began, in every head that fits its state (R132). That the summary
takes a set bit of the mask as an enabled flag is log entry 9 (DEDUCED). Everything else is as it was, but for a reply or
verdict lost at a full origin queue (R158). -/
def Obligations.DischargeReportsAndFreesTheHead : Prop :=
  ∀ (h : HeadNo) (gauge : Gauge) (s : State) (c : Context),
    (s.head h).state = .lifted → (s.head h).ctx = some c → c.reasons.Nodup →
    let hd := s.head h
    let t := takePhase h gauge .discharge s
    let faulty : Bool := decide (Reason.noSeal ∈ c.reasons ∨ Reason.ventIncomplete ∈ c.reasons
      ∨ Reason.crimpForce ∈ c.reasons)
    let overrun : Bool := decide (s.report.faultLimit ≤ hd.faults)
    let disables : Bool := overrun || (faulty && decide (hd.faults + 1 = s.report.faultLimit))
    let flags := s.report.flags ||| (if disables then 0x040 else 0)
    let k := s.report.heads[h]
    let ticket : DischargeTicket :=
      { serial := c.serial, product := c.product, head := h, version := some c.version, fill := c.fill
        temp := c.temp, suspect := some c.suspect, flags := some c.flags
        verdict := if c.reasons = [] then .accept else .reject
        reasons := c.reasons, dose := some c.dose
        gassing := match c.start, c.finish, c.peak with
          | some g, some f, some p => some
              { command := g.command, elapsed := f.elapsed, cause := f.cause, delivered := f.delivered, peak := p
                advisory := g.advisory }
          | _, _, _ => none
        settle := c.settle, crimp := c.crimp
        summary := (flags &&& s.report.mask) != 0 }
    let last : Bool := decide (s.mode = .drain ∧ ∀ j : HeadNo, j ≠ h → (s.head j).ctx = none)
    (hd.ContextFits → ticket.gassing.isSome = c.start.isSome)
    ∧ t.head h = { hd with
      state := .idle, ctx := none, haltHold := false
      entry := { hd.entry with enabled := hd.entry.enabled && !disables }
      faults := if overrun then hd.faults else if faulty then hd.faults + 1 else 0 }
    ∧ (∀ j : HeadNo, j ≠ h → t.head j = s.head j ∧ t.report.heads[j] = s.report.heads[j])
    ∧ t.report.heads[h] =
      { processed := bump k.processed
        accepted := if c.reasons = [] then bump k.accepted else k.accepted
        rejected := if c.reasons = [] then k.rejected else bump k.rejected
        headFaults := if faulty then bump k.headFaults else k.headFaults }
    ∧ (∀ r : Reason, t.report.part.rejects[r.index] =
        if r ∈ c.reasons then bump s.report.part.rejects[r.index] else s.report.part.rejects[r.index])
    ∧ t.ring = (State.offerTicket ticket s).ring
    ∧ t.report.flags = (State.offerTicket ticket { s with report := { s.report with flags := flags } }).report.flags
    ∧ t.report.part.kinds = (State.offerTicket ticket s).report.part.kinds
    ∧ t.report.mask = s.report.mask ∧ t.report.faultLimit = s.report.faultLimit
    ∧ t.mode = (if last then .standby else s.mode)
    ∧ t.haltCause = (if last then .none else s.haltCause) ∧ t.lineStop = (s.lineStop && !last)
    ∧ (∀ p : SlotNo, t.slot p = if last then (s.slot p).promote else s.slot p)
    ∧ t.tracker = s.tracker ∧ t.infeed = s.infeed ∧ t.supply = s.supply ∧ t.store = s.store
    ∧ t.valves = s.valves ∧ t.nq = s.nq ∧ t.now = s.now ∧ t.pending = s.pending
    ∧ t.requestsInHand = s.requestsInHand ∧ t.ticketsInHand = s.ticketsInHand

/-! ## Measurement and supply -/

/-- A bell sample forms the reading with the head's offset, kept in 0..1500, raises the peak of a can whose gassing began
until its lift, and trips an armed comparator or seal watch it reaches, each once (R101, R102, R104, R106). A force sample
counts a run at or above the threshold towards the qualified mark (R109). That trips and reports are counted in flight is log
entry 5. -/
def Obligations.SamplesAtAHead : Prop :=
  ∀ (dt : Nat) (h : HeadNo) (raw newtons : Int) (s : State),
    let hd := s.head h
    let reading : Nat :=
      if raw + hd.entry.bellOffset < 0 then 0
      else if 1500 < raw + hd.entry.bellOffset then 1500 else (raw + hd.entry.bellOffset).toNat
    let tracks : Bool := decide (hd.state ∈ [HeadState.gassing, .settling, .crimping, .crimped, .venting])
    let tripped : Bool := match hd.comparator with | some level => decide (level ≤ reading) | none => false
    let sealed : Bool := match hd.sealWatch with | some level => decide (level ≤ reading) | none => false
    exec (.bellPressureSample dt h raw) s = .next ((s.waiting dt).setHead h { hd with
      reading := reading
      ctx := hd.ctx.map fun c => { c with
        peak := c.peak.map fun p => if tracks ∧ p < reading then reading else p }
      comparator := if tripped then none else hd.comparator
      sealWatch := if sealed then none else hd.sealWatch
      inbox := { hd.inbox with
        trips := hd.inbox.trips + if tripped then 1 else 0
        sealReports := hd.inbox.sealReports + if sealed then 1 else 0 } })
    ∧ exec (.crimpForceSample dt h newtons) s = .next (
        match hd.qualification with
        | none => s.waiting dt
        | some q =>
          if hd.qualified then s.waiting dt
          else if (q.threshold : Int) ≤ newtons then
            (s.waiting dt).setHead h { hd with
              runCount := hd.runCount + 1, qualified := decide (hd.runCount + 1 = q.runLength) }
          else (s.waiting dt).setHead h { hd with runCount := 0 })

/-- A manifold sample forms Pm in 0..1500 and judges it by the supply state: below trip NORMAL goes to DIP and starts the dip
timer, at release DIP and LOW go back to NORMAL (R116 to R118, R120). The dip timer's expiry in DIP enters LOW, sends LOW to
every head and sets SUPPLY_LOW (R119). That a LOW in flight to a head is a count raised by 1 is log entry 5. -/
def Obligations.SupplyFollowsTheManifold : Prop :=
  ∀ (dt : Nat) (raw : Int) (s : State),
    let pm : Nat := if raw < 0 then 0 else if 1500 < raw then 1500 else raw.toNat
    let trip := 700 + 100 * s.supply.levelPair.val
    let u : Supply := { s.supply with pm := pm }
    exec (.manifoldSample dt raw) s = .next { s with
      now := s.now + dt
      supply :=
        match s.supply.state with
        | .normal =>
          if pm < trip then { u with state := .dip, dipTimer := some (s.now + dt + s.supply.dipTolerance * 1000) } else u
        | .dip => if trip + 60 ≤ pm then { u with state := .normal, dipTimer := none } else u
        | .low => if trip + 60 ≤ pm then { u with state := .normal } else u }
    ∧ (¬ (s.supply.state = .dip ∧ s.supply.dipTimer.isSome = true) → exec (.dipTimerExpiry dt) s = .next (s.waiting dt))
    ∧ (s.supply.state = .dip → s.supply.dipTimer.isSome = true →
      ∃ t, exec (.dipTimerExpiry dt) s = .next t
        ∧ (∀ h : HeadNo, t.head h = { s.head h with
            inbox := { (s.head h).inbox with lows := (s.head h).inbox.lows + 1 } })
        ∧ t = { s with
            now := s.now + dt
            supply := { s.supply with state := .low, dipTimer := none }
            heads := t.heads
            report := { s.report with flags := s.report.flags ||| 0x080 } })

/-! ## Mode control -/

/-- The five MODE requests are answered by the table of R145, and each reply carries the mode and the HALT cause as they then
stand (R145, R161). A MODE request that is broadcast is taken in the same way (R150). What is in hand is log entry 6. -/
def Obligations.ModeRequestsFollowTheTable : Prop :=
  ∀ (dt : Nat) (tag : Byte) (s : State),
    let modeAndCause (t : State) : List Byte :=
      [match t.mode with | .standby => 0 | .run => 1 | .drain => 2 | .halt => 3,
       match t.haltCause with | .none => 0 | .requested => 1 | .reverse => 2 | .encoderSlip => 3]
    let gives (i : Instr) (x : ModeTarget) (f : State → State) (r : Result) : Prop :=
      s.takeMode x = (f s, r)
      ∧ (s.Admits tag (.mode x) →
        let t := f (s.taking dt)
        exec i s = .next (t.answering 2 tag r (modeAndCause t)))
    (s.mode = .standby →
      gives (.modeRun dt tag) .run State.enterRun .done
      ∧ gives (.modeDrain dt tag) .drain id .wrongMode ∧ gives (.modeHalt dt tag) .halt id .wrongMode
      ∧ gives (.modeResume dt tag) .resume id .wrongMode ∧ gives (.modeStandby dt tag) .standby id .done)
    ∧ (s.mode = .run →
      gives (.modeRun dt tag) .run id .done ∧ gives (.modeDrain dt tag) .drain State.enterDrain .done
      ∧ gives (.modeHalt dt tag) .halt (State.enterHalt .requested) .done
      ∧ gives (.modeResume dt tag) .resume id .done ∧ gives (.modeStandby dt tag) .standby id .wrongMode)
    ∧ (s.mode = .drain →
      gives (.modeRun dt tag) .run id .wrongMode ∧ gives (.modeDrain dt tag) .drain id .done
      ∧ gives (.modeHalt dt tag) .halt (State.enterHalt .requested) .done
      ∧ gives (.modeResume dt tag) .resume id .wrongMode ∧ gives (.modeStandby dt tag) .standby id .wrongMode)
    ∧ (s.mode = .halt →
      gives (.modeRun dt tag) .run id .wrongMode ∧ gives (.modeDrain dt tag) .drain State.enterDrain .done
      ∧ gives (.modeHalt dt tag) .halt id .done ∧ gives (.modeResume dt tag) .resume State.enterRun .done
      ∧ ((∀ h : HeadNo, (s.head h).ctx = none) → gives (.modeStandby dt tag) .standby State.enterStandby .done)
      ∧ ((∃ h : HeadNo, (s.head h).ctx.isSome = true) → gives (.modeStandby dt tag) .standby id .busy))

/-- The entries to the modes. RUN clears P valid and the marks seen (R15, R146); HALT records its cause, sets HALTED, asserts
the line stop, sends HALT to every head and promotes (R147); every entry but HALT's releases the line stop and clears the
cause (R144, R148); DRAIN passes on to STANDBY when no head holds a context (R149); STANDBY promotes (R50). A tracker request
enters HALT in RUN and DRAIN alone (R18, R147). That a HALT in flight to a head is a count raised by 1 is log entry 5. -/
def Obligations.ModeEntriesAndTrackerHalt : Prop :=
  ∀ (dt : Nat) (cause : HaltCause) (request : TrackerCause) (s : State),
    let promoted := Vector.ofFn fun p : SlotNo => (s.slot p).promote
    s.enterRun = { s with
      mode := .run, haltCause := .none, lineStop := false
      tracker := { s.tracker with pValid := false, marksSeen := 0 } }
    ∧ (∃ t, s.enterHalt cause = t
      ∧ (∀ h : HeadNo, t.head h = { s.head h with
          inbox := { (s.head h).inbox with halts := (s.head h).inbox.halts + 1 } })
      ∧ t = { s with
          mode := .halt, haltCause := cause, lineStop := true, heads := t.heads, recipes := promoted
          report := { s.report with flags := s.report.flags ||| 0x100 } })
    ∧ s.enterStandby = { s with mode := .standby, haltCause := .none, lineStop := false, recipes := promoted }
    ∧ ((∀ h : HeadNo, (s.head h).ctx = none) → s.enterDrain = s.enterStandby)
    ∧ ((∃ h : HeadNo, (s.head h).ctx.isSome = true) →
        s.enterDrain = { s with mode := .drain, haltCause := .none, lineStop := false })
    ∧ exec (.trackerHaltRequest dt request) s = .next (
        if s.mode = .run ∨ s.mode = .drain then
          (s.waiting dt).enterHalt (match request with | .reverse => .reverse | .encoderSlip => .encoderSlip)
        else s.waiting dt)

/-! ## The ring port -/

/-- A frame that ends at ring-in is dropped and counted when unsound, and else routed by its kind and address: own tickets
and requests are handed on, own frames that came round are removed, a broadcast request is carried out if it is a MODE
request and relayed, and everything else is relayed (R150, R155, R156). That what is handed on stays in hand until its unit
takes it is log entry 6. -/
def Obligations.RingInFrameIsCheckedAndRouted : Prop :=
  ∀ (dt : Nat) (bs : List Byte) (s : State), s.ring.own ≠ some 31 →
    let sound : Prop := (6 ≤ bs.length ∧ bs.length ≤ 64) ∧ byteAt bs 3 ≤ 58 ∧ bs.length = 4 + byteAt bs 3 + 2
      ∧ fieldAt bs (bs.length - 2) 2 = (crc (bs.take (bs.length - 2))).toNat
    let kind := byteAt bs 0
    let own : Prop := s.ring.own = some (byteAt bs 1)
    let payload := (bs.drop 4).take (byteAt bs 3)
    let u := s.waiting dt
    let gives (t : State) : Prop := exec (.ringInFrame dt bs) s = .next t
    (¬ sound → gives { u with report := { s.report with
      part := { s.report.part with malformed := bump s.report.part.malformed }, flags := s.report.flags ||| 0x004 } })
    ∧ (sound → own → kind = 1 → gives { u with ticketsInHand := s.ticketsInHand ++ [(bs.getD 2 0, payload)] })
    ∧ (sound → own → kind = 3 → gives { u with
        requestsInHand := s.requestsInHand ++ [(bs.getD 2 0, requestOf payload)] })
    ∧ (sound → own → kind = 2 ∨ kind = 4 → gives u)
    ∧ (sound → byteAt bs 1 = 31 → kind = 3 →
      (∀ x, (∃ b, payload = [2, b] ∧ modeTarget b.toNat = some x) → gives ((u.takeMode x).1.offerRelay bs))
      ∧ ((∀ b, payload = [2, b] → modeTarget b.toNat = none) → gives (u.offerRelay bs)))
    ∧ (sound → ¬ own → ¬ (byteAt bs 1 = 31 ∧ kind = 3) → gives (u.offerRelay bs))
    ∧ (sound → own → kind ∉ [1, 2, 3, 4] → gives (u.offerRelay bs))

/-- When the last byte has gone out the arbiter chooses again: with both queues waiting the one not served last, else the one
that waits, and with none waiting the transmitter is idle (R159). With the transmitter idle the command changes nothing. -/
def Obligations.TransmitCompletionServesTheNextFrame : Prop :=
  ∀ (dt : Nat) (s : State),
    let r := s.ring
    let relayed (f : List Byte) (rest : List (List Byte)) : State := { s with
      now := s.now + dt
      ring := { r with transmitter := some f, relay := rest, lastServed := .relay } }
    let originated (f : OriginFrame) (rest : List OriginFrame) : State := { s with
      now := s.now + dt
      ring := { r with transmitter := some (f.bytes (r.own.getD 0)), origin := rest, lastServed := .origin } }
    (r.transmitter = none → exec (.transmitComplete dt) s = .next (s.waiting dt))
    ∧ (r.transmitter.isSome = true → exec (.transmitComplete dt) s = .next (
        match r.relay, r.origin with
        | [], [] => { s with now := s.now + dt, ring := { r with transmitter := none } }
        | f :: fs, [] => relayed f fs
        | [], g :: gs => originated g gs
        | f :: fs, g :: gs =>
          match r.lastServed with
          | .origin => relayed f fs
          | .relay => originated g gs))

/-- What becomes of a frame offered while another is being sent: a relay frame joins a queue of fewer than 4 or is
dropped, counted and flagged (R157); a reply joins a queue of fewer than 8 or is lost; a ticket does too, and into a full
queue evicts the oldest reply, or is lost where there is none (R158). A frame offered while the transmitter is idle and
nothing waits is sent at once (R159), with the header that R161 gives it; that bits 2 to 7 of a ticket's header byte 2,
which R161 leaves undefined, are 0 is log entry 20 (DESIGN CHOICE). -/
def Obligations.OffersToTheRingQueues : Prop :=
  ∀ (s : State) (f : List Byte) (t : DischargeTicket) (x : Reply),
    let r := s.ring
    let part := s.report.part
    let relays (q : List (List Byte)) : State := { s with ring := { r with relay := q } }
    let origins (q : List OriginFrame) : State := { s with ring := { r with origin := q } }
    let replyLost : Report := { s.report with
      part := { part with repliesLost := bump part.repliesLost }, flags := s.report.flags ||| 0x020 }
    (r.transmitter.isSome = true →
      (r.relay.length < 4 → s.offerRelay f = relays (r.relay ++ [f]))
      ∧ (4 ≤ r.relay.length → s.offerRelay f = { s with report := { s.report with
          part := { part with relayDrops := bump part.relayDrops }, flags := s.report.flags ||| 0x008 } })
      ∧ (r.origin.length < 8 → s.offerReply x = origins (r.origin ++ [.reply x])
          ∧ s.offerTicket t = origins (r.origin ++ [.ticket t]))
      ∧ (8 ≤ r.origin.length → s.offerReply x = { s with report := replyLost })
      ∧ (∀ before y after, 8 ≤ r.origin.length → r.origin = before ++ .reply y :: after →
          (∀ z, OriginFrame.reply z ∉ before) →
          s.offerTicket t = { origins (before ++ after ++ [.ticket t]) with report := replyLost })
      ∧ (8 ≤ r.origin.length → (∀ z, OriginFrame.reply z ∉ r.origin) →
          s.offerTicket t = { s with report := { s.report with
            part := { part with verdictsLost := bump part.verdictsLost }, flags := s.report.flags ||| 0x010 } }))
    ∧ (∀ own, r.transmitter = none → r.relay = [] → r.origin = [] → r.own = some own →
      s.offerRelay f = { s with ring := { r with transmitter := some f, lastServed := .relay } }
      ∧ s.offerReply x = { s with ring := { r with
          transmitter := some (frameOf 4 (BitVec.ofNat 8 own) x.tag
            ([x.kind, x.result.code, if x.summary then 1 else 0] ++ x.data))
          lastServed := .origin } }
      ∧ s.offerTicket t = { s with ring := { r with
          transmitter := some (frameOf 2 (BitVec.ofNat 8 own)
            (BitVec.ofNat 8 ((if t.suspect = some true then 1 else 0) + (if t.summary then 2 else 0))) t.payload)
          lastServed := .origin } })

/-- Every frame the part originates is sound: a receiver finds its length and its CRC right, its kind, the own address as its
source, and its byte 2 (R154, R155, R161). A discharge ticket's 38 bytes give back each of its fields at the offset of R161's
table, when the value fits its field: an absent field is 0, an absent temperature −32768, the presence byte has a bit for
each field that may be absent, and bit n − 1 of the reasons is set for code n. A reply's payload is its kind, result, summary
and data. Fields are sent and read most significant byte first, signed ones in two's complement, and the CRC takes each
byte most significant bit first, from all ones, by the generator 0x1021 (R154, R161). That the bits R161 leaves undefined in
byte 2 and in the flags byte are 0 is log entry 20. -/
def Obligations.OriginatedFramesAreSound : Prop :=
  (∀ (own : Nat) (f : OriginFrame), own ≤ 30 → f.Fits →
    let bs := f.bytes own
    let ifSet (b : Bool) (n : Nat) : Nat := if b then n else 0
    soundFrame bs = true ∧ byteAt bs 1 = own
    ∧ match f with
      | .ticket t =>
        let holds (off k v : Nat) : Prop := v < 256 ^ k → fieldAt bs (4 + off) k = v
        let gassing (get : GasFigures → Nat) : Nat := match t.gassing with | some g => get g | none => 0
        let crimp (get : CrimpResult → Nat) : Nat := match t.crimp with | some x => get x | none => 0
        byteAt bs 0 = 2 ∧ bs.length = 44 ∧ t.payload.length = 38 ∧ framePayload bs = t.payload
        ∧ byteAt bs 2 = ifSet (decide (t.suspect = some true)) 1 + ifSet t.summary 2
        ∧ holds 0 3 t.serial ∧ byteAt bs 7 = t.product.val ∧ byteAt bs 8 = t.head.val
        ∧ holds 5 1 (t.version.getD 0) ∧ holds 6 2 (t.fill.getD 0)
        ∧ (∀ v : Int, t.temp.getD (-32768) = v → -32768 ≤ v → v ≤ 32767 → signedAt bs 12 2 = v)
        ∧ byteAt bs 14 = ifSet t.version.isSome 1 + ifSet t.fill.isSome 2 + ifSet t.temp.isSome 4 + ifSet t.flags.isSome 8
            + ifSet t.dose.isSome 16 + ifSet t.gassing.isSome 32 + ifSet t.settle.isSome 64 + ifSet t.crimp.isSome 128
        ∧ byteAt bs 15 = (match t.verdict with | .accept => 0 | .reject => 1 | .void => 2)
        ∧ (∀ x ∈ ([.noRecipe, .untracked, .headDisabled, .notRunning, .noSeal, .overpressure, .windowCut, .underdose,
              .supplyLow, .settleRange, .crimpDepth, .crimpDiameter, .crimpForce, .crimpShort, .ventIncomplete,
              .aborted] : List Reason).zipIdx,
            (fieldAt bs 16 2).testBit x.2 = decide (x.1 ∈ t.reasons))
        ∧ byteAt bs 18 = (match t.flags with
            | some x => ifSet x.doseClamped 1 + ifSet x.doseLimited 2 + ifSet x.windowShort 4 + ifSet x.supplyDip 8
            | none => 0)
        ∧ holds 15 2 (t.dose.getD 0) ∧ holds 17 3 (gassing (·.command)) ∧ holds 20 3 (gassing (·.elapsed))
        ∧ byteAt bs 27 = (match t.gassing with
            | some g => match g.cause with
              | .dosed => 1 | .overpressure => 2 | .noSeal => 3 | .windowCut => 4 | .supplyLow => 5 | .aborted => 6
            | none => 0)
        ∧ holds 24 3 (gassing (·.delivered)) ∧ holds 27 2 (gassing (·.peak)) ∧ holds 29 2 (t.settle.getD 0)
        ∧ holds 31 2 (crimp (·.depth)) ∧ holds 33 2 (crimp (·.diameter))
        ∧ byteAt bs 39 = crimp (fun x => ifSet x.qualified 1) ∧ holds 36 2 (gassing (·.advisory))
      | .reply x => byteAt bs 0 = 4 ∧ byteAt bs 2 = x.tag.toNat
          ∧ framePayload bs = [x.kind,
              match x.result with
              | .done => 0 | .started => 1 | .wrongMode => 2 | .badField => 3 | .busy => 4 | .protect => 5 | .empty => 6
              | .unknown => 7,
              if x.summary then 1 else 0] ++ x.data)
  ∧ (∀ k n : Nat, n < 256 ^ k → (bytesOf k n).length = k ∧ fieldAt (bytesOf k n) 0 k = n)
  ∧ (∀ (k : Nat) (i : Int), -(2 ^ (8 * k + 7)) ≤ i → i < 2 ^ (8 * k + 7) →
    (signedBytes (k + 1) i).length = k + 1 ∧ signedAt (signedBytes (k + 1) i) 0 (k + 1) = i)
  ∧ (∀ (b : Byte) (rest : List Byte),
    fieldAt (b :: rest) 0 (rest.length + 1) = b.toNat * 256 ^ rest.length + fieldAt rest 0 rest.length)
  ∧ (∀ (bs : List Byte) (off k : Nat),
    let n := fieldAt bs off (k + 1)
    signedAt bs off (k + 1) = if n < 2 ^ (8 * k + 7) then (n : Int) else (n : Int) - 2 ^ (8 * k + 8))
  ∧ crc [] = 0xFFFF
  ∧ ∀ (bs : List Byte) (b : Byte), crc (bs ++ [b]) =
      Nat.repeat (fun r : BitVec 16 => if r.msb then (r <<< 1) ^^^ 0x1021 else r <<< 1) 8
        (crc bs ^^^ (b.setWidth 16 <<< 8))

/-! ## Management -/

/-- A request payload is read by its layout, each kind with its fields at their places, and undefined option and mark bits
ignored (R161, R162). Requests that are refused before they reach a block: an empty payload or an undefined kind is answered
UNKNOWN with the kind echoed, a payload of the wrong length for its kind BAD_FIELD (R162), and so is a MODE request with an
undefined target, with the mode and the HALT cause (R145, R161). A part without an own address takes no request and no
ticket (R156). Requests are taken in the order they arrived, so one that is sent while another stands before it in hand is
not taken (R162; what is in hand, and that a payload another row names is dealt with as that request, is log entry 6). -/
def Obligations.RequestPayloadsAreReadAndChecked : Prop :=
  ∀ (dt : Nat) (tag : Byte) (pins : BitVec 5) (s : State),
    let brings (p : List Byte) (r : Result) (data : List Byte) (kind : Byte) : Prop :=
      s.Admits tag (requestOf p) →
        exec (.unknownRequest dt tag ⟨p, pins⟩) s = .next ((s.taking dt).answering kind tag r data)
    let spells (p : List Byte) (i : Instr) : Prop := exec (.unknownRequest dt tag ⟨p, pins⟩) s = exec i s
    let modeAndCause : List Byte :=
      [match s.mode with | .standby => 0 | .run => 1 | .drain => 2 | .halt => 3,
       match s.haltCause with | .none => 0 | .requested => 1 | .reverse => 2 | .encoderSlip => 3]
    (s.ring.own = none → ∀ i : Instr, (i.request.isSome = true ∨ ∃ dt f p, i = .infeedTicket dt f p) →
      exec i s = .next (s.waiting i.elapsed))
    ∧ (∀ (i : Instr) (q x : Byte × Request), i.request = some q → s.requestsInHand.head? = some x → x ≠ q →
      exec i s = .next (s.waiting i.elapsed))
    ∧ brings [] .unknown [] 0
    ∧ (∀ (k : Byte) (rest : List Byte), k = 0 ∨ 18 < k.toNat → brings (k :: rest) .unknown [] k)
    ∧ (∀ (k : Byte) (rest : List Byte) (n : Option Nat),
      requestLength (k :: rest) k.toNat = some n → n ≠ some (rest.length + 1) →
      brings (k :: rest) .badField (if k = 2 then modeAndCause else []) k)
    ∧ (∀ b : Byte, b = 0 ∨ 5 < b.toNat → brings [2, b] .badField modeAndCause 2)
    ∧ (spells [1] (.status dt tag) ∧ spells [2, 1] (.modeRun dt tag) ∧ spells [2, 2] (.modeDrain dt tag)
      ∧ spells [2, 3] (.modeHalt dt tag) ∧ spells [2, 4] (.modeResume dt tag) ∧ spells [2, 5] (.modeStandby dt tag)
      ∧ spells [18] (.restart dt ⟨tag, pins⟩))
    ∧ (∀ a b c d e : Byte,
      let two (x y : Byte) : Nat := fieldAt [x, y] 0 2
      spells [5, a] (.recipeDrop dt tag a.toNat) ∧ spells [6, a] (.recipeClear dt tag a.toNat)
      ∧ spells [7, a, b, c] (.recipeRead dt tag a.toNat b.toNat c.toNat)
      ∧ spells [9, a] (.headRead dt tag a.toNat) ∧ spells [10, a] (.headStore dt tag a.toNat)
      ∧ spells [11, a] (.protect dt tag (BitVec.ofNat 4 a.toNat))
      ∧ spells [12, a, b, c] (.latch dt tag (BitVec.ofNat 24 (fieldAt [a, b, c] 0 3)))
      ∧ spells [13, a] (.snapshot dt tag a.toNat)
      ∧ spells [14, a, b] (if b.toNat.testBit 0 then .countersClear dt tag a.toNat else .counters dt tag a.toNat)
      ∧ spells [15, a, b, c, d, e] (.attention dt tag (BitVec.ofNat 11 (two a b))
          (if c.toNat.testBit 0 then some (BitVec.ofNat 11 (two d e)) else none))
      ∧ spells [16, 1, a, b] (.configWriteADis dt tag (two a b))
      ∧ spells [16, 2, a] (.configWriteFaultLimit dt tag a.toNat) ∧ spells [16, 3, a] (.configWriteNq dt tag a.toNat)
      ∧ spells [16, 4, a] (.configWriteLevelPair dt tag a.toNat)
      ∧ spells [16, 5, a] (.configWriteDipTolerance dt tag a.toNat)
      ∧ spells [17, a] (.configRead dt tag a.toNat))
    ∧ ∀ (a b : Byte) (v : List Byte),
      (v.length = 6 → spells (8 :: a :: b :: v) (.headWrite dt tag a.toNat (b.toNat.testBit 0)
        { enabled := byteAt v 0, valveClass := byteAt v 1, bellOffset := signedAt v 2 2, depthOffset := signedAt v 4 1
          diameterOffset := signedAt v 5 1 }))
      ∧ (v.length = 16 → spells (16 :: 6 :: v) (.configWriteValveClassTable dt tag
          (Vector.ofFn fun k => { lagOpen := fieldAt v (4 * k.val) 2, lagClose := fieldAt v (4 * k.val + 2) 2 })))
      ∧ (v.length = 32 → spells (16 :: 7 :: v) (.configWriteFlowTable dt tag
          (Vector.ofFn fun k => { floor := fieldAt v (4 * k.val) 2, flow := fieldAt v (4 * k.val + 2) 2 })))
      ∧ (v.length = 27 → spells (3 :: a :: v) (.recipeGas dt tag a.toNat
          { d0 := fieldAt v 0 2, dMin := fieldAt v 2 2, dMax := fieldAt v 4 2, dTol := fieldAt v 6 2, f0 := fieldAt v 8 2
            kh := fieldAt v 10 2, t0 := signedAt v 12 2, kt := signedAt v 14 2, tMax := fieldAt v 16 3
            sealLevel := fieldAt v 19 2, sealTime := byteAt v 21, overStep := byteAt v 22
            settleMin := fieldAt v 23 2, settleMax := fieldAt v 25 2 }))
      ∧ (v.length = 27 → spells (4 :: a :: v) (.recipeCam dt tag a.toNat
          { sealAngle := fieldAt v 0 2, gasStart := fieldAt v 2 2, gasEnd := fieldAt v 4 2, crimp := fieldAt v 6 2
            vent := fieldAt v 8 2, lift := fieldAt v 10 2, dwell := byteAt v 12, depthMin := fieldAt v 13 2
            depthMax := fieldAt v 15 2, diameterMin := fieldAt v 17 2, diameterMax := fieldAt v 19 2
            force := fieldAt v 21 2, pulses := byteAt v 23, ventPeriod := byteAt v 24, ventOn := byteAt v 25
            ventClear := byteAt v 26 }))

/-- The requests that only read answer DONE in every mode with the values as they stand, and change nothing: STATUS with its
20 bytes and 16 slot records (R163), HEAD-READ (R164), COUNTERS without the clear option, scope by scope (R136, R167), and
CONFIG-READ, group by group in the layout of its write (R168); any other head, scope or group is refused BAD_FIELD. The
model's choices: the bits that R161 leaves undefined are 0 (log entry 20), a blank store entry goes out as 0 and six bytes of
0 (log entry 8), a set bit of the mask is an enabled flag (log entry 9), and what is in hand is log entry 6. -/
def Obligations.ReadingRequestsChangeNothing : Prop :=
  ∀ (dt : Nat) (tag : Byte) (n : Nat) (s : State),
    let u := s.taking dt
    let byte (n : Nat) : List Byte := [BitVec.ofNat 8 n]
    let ifSet (b : Bool) (n : Nat) : Nat := if b then n else 0
    let entry (e : HeadEntry) : List Byte :=
      byte (ifSet e.enabled 1) ++ byte e.valveClass.val ++ signedBytes 2 e.bellOffset
        ++ signedBytes 1 e.depthOffset ++ signedBytes 1 e.diameterOffset
    let record (sl : Slot) : List Byte :=
      byte (ifSet sl.live.isSome 128 + match sl.pending with
        | .none => 0 | .gasOnly _ => 1 | .camOnly _ => 2 | .complete _ _ => 3 | .removal => 4) ++ byte sl.version
    let part := s.report.part
    (s.Admits tag .status → exec (.status dt tag) s = .next (u.answering 1 tag .done
      (byte (match s.mode with | .standby => 0 | .run => 1 | .drain => 2 | .halt => 3)
        ++ byte (match s.haltCause with | .none => 0 | .requested => 1 | .reverse => 2 | .encoderSlip => 3)
        ++ byte (match s.supply.state with | .normal => 0 | .dip => 1 | .low => 2)
        ++ bytesOf 2 s.supply.pm ++ bytesOf 3 s.tracker.pitch
        ++ byte (ifSet s.tracker.pValid 1 + match s.tracker.direction with | .forward => 0 | .reverse => 2)
        ++ bytesOf 2 s.tracker.count
        ++ byte s.infeed.queue.length ++ byte s.ring.relay.length ++ byte s.ring.origin.length
        ++ bytesOf 2 s.report.flags.toNat ++ bytesOf 2 s.report.mask.toNat
        ++ byte (ifSet s.store.op.isSome 1 + 16 * s.store.marks.toNat)
        ++ byte (match s.infeed.running with | some p => p.val | none => 255)
        ++ (List.finRange 16).flatMap fun p : SlotNo => record (s.slot p))))
    ∧ (s.Admits tag (.headRead n) →
      (∀ h : HeadNo, n = h.val → exec (.headRead dt tag n) s = .next (u.answering 9 tag .done
        (entry (s.head h).entry ++ byte (s.head h).faults
          ++ match s.store.entries[h] with
             | some e => 1 :: entry e
             | none => [0, 0, 0, 0, 0, 0, 0])))
      ∧ (23 < n → exec (.headRead dt tag n) s = .next (u.answering 9 tag .badField [])))
    ∧ (s.Admits tag (.counters n false) →
      let reads (l : List Nat) : Prop :=
        exec (.counters dt tag n) s = .next (u.answering 14 tag .done (l.flatMap (bytesOf 4)))
      let rejects (l : List Reason) : List Nat := l.map fun r => part.rejects[r.index]
      (∀ h : HeadNo, n = h.val →
        let k := s.report.heads[h]
        reads [k.processed, k.accepted, k.rejected, k.headFaults])
      ∧ (n = 252 → reads [part.voids, part.untracked, part.duplicates, part.overruns, part.malformed, part.relayDrops,
          part.verdictsLost, part.repliesLost, part.headBusy])
      ∧ (n = 253 → reads (rejects [.noRecipe, .untracked, .headDisabled, .notRunning, .noSeal, .overpressure,
          .windowCut, .underdose]))
      ∧ (n = 254 → reads (rejects [.supplyLow, .settleRange, .crimpDepth, .crimpDiameter, .crimpForce, .crimpShort,
          .ventIncomplete, .aborted]))
      ∧ (23 < n → n ∉ [252, 253, 254] → exec (.counters dt tag n) s = .next (u.answering 14 tag .badField [])))
    ∧ (s.Admits tag (.configRead n) →
      let reads (values : List Byte) : Prop :=
        exec (.configRead dt tag n) s = .next (u.answering 17 tag .done (byte n ++ values))
      (n = 1 → reads (bytesOf 2 s.tracker.aDis)) ∧ (n = 2 → reads (byte s.report.faultLimit))
      ∧ (n = 3 → reads (byte s.nq)) ∧ (n = 4 → reads (byte s.supply.levelPair.val))
      ∧ (n = 5 → reads (byte s.supply.dipTolerance))
      ∧ (n = 6 → reads ((List.finRange 4).flatMap fun k : Fin 4 =>
          bytesOf 2 s.valves[k].lagOpen ++ bytesOf 2 s.valves[k].lagClose))
      ∧ (n = 7 → reads ((List.finRange 8).flatMap fun k : Fin 8 =>
          bytesOf 2 s.supply.flow[k].floor ++ bytesOf 2 s.supply.flow[k].flow))
      ∧ (n = 0 ∨ 7 < n → exec (.configRead dt tag n) s = .next (u.answering 17 tag .badField [])))

/-- COUNTERS with the clear option reports the counters of its scope as they stood, sets them to 0, and leaves every other
counter, the flags, the mask and the fault limit (R136, R167). ATTENTION clears the flags it names and replaces the mask
if asked, as one action, and answers with both as they then stand (R140). The summary that a reply or ticket carries is set
exactly when some flag is both set and enabled in the mask (R141). That a set bit of the mask is an enabled flag, in the mask
that ATTENTION writes and in the summary, is the model's reading: log entry 9 (DEDUCED). That bits 11 to 15 of both sets are
sent as 0 is log entry 20, and what is in hand is log entry 6. -/
def Obligations.CountersClearAndAttention : Prop :=
  ∀ (dt : Nat) (tag : Byte) (n : Nat) (clear : BitVec 11) (mask : Option (BitVec 11)) (s : State),
    let u := s.taking dt
    (∀ bytes, s.Admits tag (.counters n true) → s.scopeBytes n = some bytes →
      exec (.countersClear dt tag n) s = .next ((u.clearScope n).answering 14 tag .done bytes))
    ∧ (s.Admits tag (.counters n true) → s.scopeBytes n = none →
      exec (.countersClear dt tag n) s = .next (u.answering 14 tag .badField []))
    ∧ (s.scopeBytes n = none ↔ ¬ (n ≤ 23 ∨ n = 252 ∨ n = 253 ∨ n = 254))
    ∧ (∀ h : HeadNo, (s.clearScope n).report.heads[h] = if n = h.val then ⟨0, 0, 0, 0⟩ else s.report.heads[h])
    ∧ (s.clearScope n).report.part.kinds = (if n = 252 then [0, 0, 0, 0, 0, 0, 0, 0, 0] else s.report.part.kinds)
    ∧ (∀ k : Fin 16, (s.clearScope n).report.part.rejects[k] =
        if (n = 253 ∧ k.val < 8) ∨ (n = 254 ∧ 8 ≤ k.val) then 0 else s.report.part.rejects[k])
    ∧ s.clearScope n = { s with report := { s.report with
        heads := (s.clearScope n).report.heads, part := (s.clearScope n).report.part } }
    ∧ (s.Admits tag (.attention clear mask) →
       let flags := s.report.flags &&& ~~~clear
       let m := match mask with | some x => x | none => s.report.mask
       let told : State := { u with
         report := { s.report with flags := flags, mask := m } }
       exec (.attention dt tag clear mask) s = .next
        (told.answering 15 tag .done (bytesOf 2 flags.toNat ++ bytesOf 2 m.toNat)))
    ∧ (s.summary = true ↔ ∃ k : Fin 11, s.report.flags.getLsbD k.val = true ∧ s.report.mask.getLsbD k.val = true)

/-- HEAD-WRITE replaces the whole working entry, resets the fault count if asked and empties the snapshot slot; it is refused
BAD_FIELD for a head above 23, a field outside its range, or an enabling without the reset at the fault limit (R96). What is
in hand is log entry 6. -/
def Obligations.HeadWriteIsCheckedWhole : Prop :=
  ∀ (dt : Nat) (tag : Byte) (n : Nat) (resetCount : Bool) (f : HeadFields) (s : State),
    s.Admits tag (.headWrite n resetCount f) →
    let u := s.taking dt
    let refused : Prop := exec (.headWrite dt tag n resetCount f) s = .next (u.answering 8 tag .badField [])
    let inRange : Prop := f.enabled ≤ 1 ∧ f.valveClass ≤ 3 ∧ (-100 ≤ f.bellOffset ∧ f.bellOffset ≤ 100)
      ∧ (-50 ≤ f.depthOffset ∧ f.depthOffset ≤ 50) ∧ (-50 ≤ f.diameterOffset ∧ f.diameterOffset ≤ 50)
    (23 < n → refused) ∧ (¬ inRange → refused)
    ∧ ∀ h : HeadNo, n = h.val → inRange →
      let barred : Prop := f.enabled = 1 ∧ resetCount = false ∧ s.report.faultLimit ≤ (s.head h).faults
      (barred → refused)
      ∧ (¬ barred →
        exec (.headWrite dt tag n resetCount f) s = .next
          ((u.setHead h { s.head h with
            entry :=
              { enabled := decide (f.enabled = 1), valveClass := Fin.ofNat 4 f.valveClass, bellOffset := f.bellOffset
                depthOffset := f.depthOffset, diameterOffset := f.diameterOffset }
            faults := if resetCount then 0 else (s.head h).faults
            snapshot := none }).answering 8 tag .done []))

/-- LATCH captures every masked head whose slot is empty and leaves the slots that hold a snapshot; SNAPSHOT reads a slot,
field by field in the layout of R161 with an absent field sent as 0, and empties it, and answers EMPTY for an empty one
(R161, R165, R166). That bits 3 to 7 of the presence byte are 0 is log entry 20, and what is in hand is log entry 6. -/
def Obligations.LatchAndSnapshot : Prop :=
  ∀ (dt : Nat) (tag : Byte) (mask : BitVec 24) (n : Nat) (s : State),
    let v := s.taking dt
    (s.Admits tag (.latch mask) → ∃ u : State, exec (.latch dt tag mask) s = .next (u.answering 12 tag .done
          (bytesOf 1 (((List.finRange 24).filter fun h : HeadNo =>
              mask.getLsbD h.val && (s.head h).snapshot.isNone).length)
            ++ bytesOf 1 (((List.finRange 24).filter fun h : HeadNo =>
              mask.getLsbD h.val && (s.head h).snapshot.isSome).length)))
      ∧ u = { v with heads := u.heads }
      ∧ ∀ h : HeadNo, u.head h =
          if mask.getLsbD h.val = true ∧ (s.head h).snapshot = none then
            { s.head h with
              snapshot := some
                { state := (s.head h).state
                  angle := relativeAngle s.tracker.count h
                  serial := (s.head h).ctx.map (·.serial)
                  elapsed := match (s.head h).state, (s.head h).ctx with
                    | .gassing, some c => some (match c.start with | some g => s.now + dt - g.openedAt | none => 0)
                    | _, _ => none
                  reading := (s.head h).reading
                  peak := match (s.head h).ctx with | some c => c.peak | none => none
                  faults := (s.head h).faults } }
          else s.head h)
    ∧ (s.Admits tag (.snapshot n) →
      (23 < n → exec (.snapshot dt tag n) s = .next (v.answering 13 tag .badField []))
      ∧ ∀ h : HeadNo, n = h.val →
        ((s.head h).snapshot = none → exec (.snapshot dt tag n) s = .next (v.answering 13 tag .empty []))
        ∧ ∀ p, (s.head h).snapshot = some p →
          let ifSet (b : Bool) (n : Nat) : Nat := if b then n else 0
          exec (.snapshot dt tag n) s = .next
            ((v.setHead h { s.head h with snapshot := none }).answering 13 tag .done
              (bytesOf 1 h.val
                ++ bytesOf 1 (match p.state with
                  | .idle => 0 | .bound => 1 | .sealed => 2 | .gassing => 3 | .settling => 4 | .crimping => 5
                  | .crimped => 6 | .venting => 7 | .lifted => 8)
                ++ bytesOf 2 p.angle
                ++ bytesOf 1 (ifSet p.serial.isSome 1 + ifSet p.elapsed.isSome 2 + ifSet p.peak.isSome 4)
                ++ bytesOf 3 (p.serial.getD 0) ++ bytesOf 3 (p.elapsed.getD 0) ++ bytesOf 2 p.reading
                ++ bytesOf 2 (p.peak.getD 0) ++ bytesOf 1 p.faults)))

/-- A CONFIG-WRITE replaces its whole group if every value passes the owner's check and else leaves it, with a_dis written in
STANDBY alone and kept above every live and pending lift angle (R16, R62, R111, R123, R124, R125, R139, R168). What is in
hand is log entry 6. -/
def Obligations.ConfigWriteReplacesAWholeGroup : Prop :=
  ∀ (dt : Nat) (tag : Byte) (v : Nat) (vt : Vector ValveClass 4) (ft : Vector FlowBand 8) (s : State),
    let u : State := s.taking dt
    let gives (i : Instr) (x : ConfigValue) (t : State) (r : Result) : Prop :=
      s.Admits tag (.configWrite x) → exec i s = .next (t.answering 16 tag r [])
    let above : Prop := ∀ p : SlotNo, (∀ r ∈ (s.slot p).live, r.cam.lift < v)
      ∧ ∀ c ∈ (s.slot p).pending.cam, c.lift < v
    (s.mode ≠ .standby → gives (.configWriteADis dt tag v) (.aDis v) u .wrongMode)
    ∧ (s.mode = .standby → (4096 ≤ v ∧ v ≤ 6143 ∧ above) →
        gives (.configWriteADis dt tag v) (.aDis v) { u with tracker := { s.tracker with aDis := v } } .done)
    ∧ (s.mode = .standby → ¬ (4096 ≤ v ∧ v ≤ 6143 ∧ above) →
        gives (.configWriteADis dt tag v) (.aDis v) u .badField)
    ∧ (1 ≤ v ∧ v ≤ 15 → gives (.configWriteFaultLimit dt tag v) (.faultLimit v)
        { u with report := { s.report with faultLimit := v } } .done)
    ∧ (¬ (1 ≤ v ∧ v ≤ 15) → gives (.configWriteFaultLimit dt tag v) (.faultLimit v) u .badField)
    ∧ (v = 4 ∨ v = 16 → gives (.configWriteNq dt tag v) (.nq v) { u with nq := v } .done)
    ∧ (¬ (v = 4 ∨ v = 16) → gives (.configWriteNq dt tag v) (.nq v) u .badField)
    ∧ (v ≤ 3 → gives (.configWriteLevelPair dt tag v) (.levelPair v)
        { u with supply := { s.supply with levelPair := Fin.ofNat 4 v } } .done)
    ∧ (3 < v → gives (.configWriteLevelPair dt tag v) (.levelPair v) u .badField)
    ∧ (5 ≤ v ∧ v ≤ 200 → gives (.configWriteDipTolerance dt tag v) (.dipTolerance v)
        { u with supply := { s.supply with dipTolerance := v } } .done)
    ∧ (¬ (5 ≤ v ∧ v ≤ 200) → gives (.configWriteDipTolerance dt tag v) (.dipTolerance v) u .badField)
    ∧ (ValvesFit vt → gives (.configWriteValveClassTable dt tag vt) (.valves vt) { u with valves := vt } .done)
    ∧ (¬ ValvesFit vt → gives (.configWriteValveClassTable dt tag vt) (.valves vt) u .badField)
    ∧ (FlowFits ft → gives (.configWriteFlowTable dt tag ft) (.flow ft)
        { u with supply := { s.supply with flow := ft } } .done)
    ∧ (¬ FlowFits ft → gives (.configWriteFlowTable dt tag ft) (.flow ft) u .badField)

/-! ## The head calibration store -/

/-- HEAD-STORE and PROTECT make their checks in order and else start a 12 ms operation on what they carry; the timer's expiry
completes it, clears it and sets STORE_DONE, and leaves the working entries (R171 to R173). With no operation in flight the
expiry changes nothing. What is in hand is log entry 6. -/
def Obligations.StoreOperationsStartAndComplete : Prop :=
  ∀ (dt : Nat) (tag : Byte) (n : Nat) (marks : BitVec 4) (s : State),
    let u := s.taking dt
    let byStore : Prop := s.Admits tag (.headStore n)
    let started (op : StoreOp) : State := { u with
      store := { s.store with op := some op, timer := some (s.now + dt + 12000) } }
    let ended : Store := { s.store with op := none, timer := none }
    let finished (st : Store) : State := { s with
      now := s.now + dt, store := st, report := { s.report with flags := s.report.flags ||| 0x200 } }
    (byStore → 23 < n → exec (.headStore dt tag n) s = .next (u.answering 10 tag .badField []))
    ∧ (∀ h : HeadNo, byStore → n = h.val →
      exec (.headStore dt tag n) s = .next (
        if s.store.marks.getLsbD (h.val / 6) then u.answering 10 tag .protect []
        else if s.store.op.isSome then u.answering 10 tag .busy []
        else (started (.headWrite h (s.head h).entry)).answering 10 tag .started []))
    ∧ (s.Admits tag (.protect marks) →
      exec (.protect dt tag marks) s = .next (
        if s.mode ≠ .standby then u.answering 11 tag .wrongMode []
        else if s.store.op.isSome then u.answering 11 tag .busy []
        else (started (.markWrite marks)).answering 11 tag .started []))
    ∧ exec (.storeOperationTimerExpiry dt) s = .next (
        match s.store.op with
        | none => s.waiting dt
        | some (.headWrite h e) => finished { ended with entries := s.store.entries.set h (some e) }
        | some (.markWrite m) => finished { ended with marks := m })

/-! ## Invariants that every step keeps -/

/-- The state right after reset is safe: every invariant below holds of it. That its pins spell the address 1 is log entry 4,
and that it is a part never written is log entry 19. -/
def Obligations.ResetIsSafe : Prop := State.reset.Safe

/-- Every step keeps each head's outputs, context and timers to its state, by the table of section 5.1 (R73). -/
def Obligations.EveryStepKeepsTheHeadsToTheirStates : Prop :=
  ∀ s t : State, s.HeadsFit → step s = .next t → t.HeadsFit ∧ t.GasOrVent

/-- Every step keeps a head in STANDBY without a context, the line stop asserted exactly in HALT and the HALT cause none
exactly outside it (R144). -/
def Obligations.EveryStepKeepsStandbyEmptyAndTheLineStop : Prop :=
  ∀ s t : State, s.StandbyEmpty → s.HaltFits → step s = .next t → t.StandbyEmpty ∧ t.HaltFits

/-- Every step keeps every live and pending half valid, the lift angles below the discharge angle in force, and no slot
waiting in STANDBY and HALT (R39, R49). -/
def Obligations.EveryStepKeepsTheRecipesValid : Prop :=
  ∀ s t : State, s.RecipesFit → step s = .next t → t.RecipesFit

/-- Every step keeps every committed dose within its recipe copy's limits, every command time at most its Tmax, and every
reason set in rising code order without repeats (R60, R64, R128). -/
def Obligations.EveryStepKeepsDosesAndReasonsFit : Prop :=
  ∀ s t : State, s.RecipesFit → s.DosesFit → s.ReasonsFit → step s = .next t → t.DosesFit ∧ t.ReasonsFit

/-- Every step keeps the infeed queue to 8 tickets, the relay queue to 4 frames, the origin queue to 8, every reply's data to
the 55 bytes a frame leaves it, and no frame waiting at an idle transmitter (R22, R157 to R159, R161). -/
def Obligations.EveryStepKeepsTheQueuesBounded : Prop :=
  ∀ s t : State, s.QueuesFit → step s = .next t → t.QueuesFit

/-- Every step keeps every tracked serial at most once across the infeed queue and the can contexts (R21). -/
def Obligations.EveryStepKeepsSerialsUnique : Prop :=
  ∀ s t : State, s.SerialsFit → step s = .next t → t.SerialsFit

/-- Every step keeps each unit's values in their ranges, each group of them on its own: the tracker's, with P valid after two
marks (R13, R15); Pm, with the dip timer running exactly in DIP (R116 to R120); the operation timer, running exactly with an
operation in flight (R171 to R173); the own address, to what the pins spell (R156, R160); the line configuration (R16, R61,
R111, R122, R125, R139); and the bell readings, peaks and settle pressures (R101, R102, R107). -/
def Obligations.EveryStepKeepsTheUnitsInTheirRanges : Prop :=
  ∀ s t : State, step s = .next t →
    (s.TrackerFits → t.TrackerFits) ∧ (s.SupplyFits → t.SupplyFits) ∧ (s.StoreFits → t.StoreFits)
    ∧ (s.AddressFits → t.AddressFits) ∧ (s.LineConfigurationFits → t.LineConfigurationFits)
    ∧ (s.ReadingsFit → t.ReadingsFit)

/-- Every counter stays in 0..4,294,967,295, and no command but a COUNTERS clear and a reset lowers one (R134). -/
def Obligations.CountersFallOnlyByClearOrReset : Prop :=
  ∀ (i : Instr) (s t : State), s.CountersFit → exec i s = .next t →
    t.CountersFit ∧ (¬ i.MayLowerCounters → s.CountersRise t)

/-- A head enters GASSING only while the mode is RUN or DRAIN and the supply is not LOW, and only by a forward edge or an
index mark (R76). -/
def Obligations.GassingBeginsOnlyInRunOrDrainAndNotInLow : Prop :=
  ∀ (i : Instr) (s t : State) (h : HeadNo), exec i s = .next t →
    (s.head h).state ≠ .gassing → (t.head h).state = .gassing →
    (s.mode = .run ∨ s.mode = .drain) ∧ s.supply.state ≠ .low
    ∧ ((∃ dt lines order, i = .forwardEdge dt lines order) ∨ ∃ dt lines o1 o0, i = .indexMark dt lines o1 o0)
end

