-- ==== Sys2Proof/Laws/State.lean ====
section
/-! SUPPORT. What each named update of the state does to each field: one lemma for each, true by unfolding the update once, so that no proof
unfolds a record update. A field with no lemma is the one that the update computes. -/

namespace Sys2Proof.Machine

/-! ## `State.elapse` -/

@[simp] theorem State.elapse_now (s : State) (dt : Nat) : (s.elapse dt).now = s.now + dt := rfl
@[simp] theorem State.elapse_tracker (s : State) (dt : Nat) : (s.elapse dt).tracker = s.tracker := rfl
@[simp] theorem State.elapse_infeed (s : State) (dt : Nat) : (s.elapse dt).infeed = s.infeed := rfl
@[simp] theorem State.elapse_recipes (s : State) (dt : Nat) : (s.elapse dt).recipes = s.recipes := rfl
@[simp] theorem State.elapse_valves (s : State) (dt : Nat) : (s.elapse dt).valves = s.valves := rfl
@[simp] theorem State.elapse_heads (s : State) (dt : Nat) : (s.elapse dt).heads = s.heads := rfl
@[simp] theorem State.elapse_nq (s : State) (dt : Nat) : (s.elapse dt).nq = s.nq := rfl
@[simp] theorem State.elapse_supply (s : State) (dt : Nat) : (s.elapse dt).supply = s.supply := rfl
@[simp] theorem State.elapse_report (s : State) (dt : Nat) : (s.elapse dt).report = s.report := rfl
@[simp] theorem State.elapse_mode (s : State) (dt : Nat) : (s.elapse dt).mode = s.mode := rfl
@[simp] theorem State.elapse_haltCause (s : State) (dt : Nat) : (s.elapse dt).haltCause = s.haltCause := rfl
@[simp] theorem State.elapse_lineStop (s : State) (dt : Nat) : (s.elapse dt).lineStop = s.lineStop := rfl
@[simp] theorem State.elapse_ring (s : State) (dt : Nat) : (s.elapse dt).ring = s.ring := rfl
@[simp] theorem State.elapse_store (s : State) (dt : Nat) : (s.elapse dt).store = s.store := rfl
@[simp] theorem State.elapse_requestsInHand (s : State) (dt : Nat) : (s.elapse dt).requestsInHand = s.requestsInHand := rfl
@[simp] theorem State.elapse_ticketsInHand (s : State) (dt : Nat) : (s.elapse dt).ticketsInHand = s.ticketsInHand := rfl
@[simp] theorem State.elapse_pending (s : State) (dt : Nat) : (s.elapse dt).pending = s.pending := rfl
@[simp] theorem State.elapse_head (s : State) (dt : Nat) (k : HeadNo) : (s.elapse dt).head k = s.head k := rfl
@[simp] theorem State.elapse_noContext (s : State) (dt : Nat) : (s.elapse dt).noContext = s.noContext := rfl
@[simp] theorem State.elapse_slot (s : State) (dt : Nat) (other : SlotNo) : (s.elapse dt).slot other = s.slot other := rfl
@[simp] theorem State.elapse_summary (s : State) (dt : Nat) : (s.elapse dt).summary = s.summary := rfl

/-! ## `State.setHead` -/

@[simp] theorem State.setHead_now (s : State) (h : HeadNo) (hd : Head) : (s.setHead h hd).now = s.now := rfl
@[simp] theorem State.setHead_tracker (s : State) (h : HeadNo) (hd : Head) : (s.setHead h hd).tracker = s.tracker := rfl
@[simp] theorem State.setHead_infeed (s : State) (h : HeadNo) (hd : Head) : (s.setHead h hd).infeed = s.infeed := rfl
@[simp] theorem State.setHead_recipes (s : State) (h : HeadNo) (hd : Head) : (s.setHead h hd).recipes = s.recipes := rfl
@[simp] theorem State.setHead_valves (s : State) (h : HeadNo) (hd : Head) : (s.setHead h hd).valves = s.valves := rfl
@[simp] theorem State.setHead_heads (s : State) (h : HeadNo) (hd : Head) : (s.setHead h hd).heads = s.heads.set h hd := rfl
@[simp] theorem State.setHead_nq (s : State) (h : HeadNo) (hd : Head) : (s.setHead h hd).nq = s.nq := rfl
@[simp] theorem State.setHead_supply (s : State) (h : HeadNo) (hd : Head) : (s.setHead h hd).supply = s.supply := rfl
@[simp] theorem State.setHead_report (s : State) (h : HeadNo) (hd : Head) : (s.setHead h hd).report = s.report := rfl
@[simp] theorem State.setHead_mode (s : State) (h : HeadNo) (hd : Head) : (s.setHead h hd).mode = s.mode := rfl
@[simp] theorem State.setHead_haltCause (s : State) (h : HeadNo) (hd : Head) : (s.setHead h hd).haltCause = s.haltCause := rfl
@[simp] theorem State.setHead_lineStop (s : State) (h : HeadNo) (hd : Head) : (s.setHead h hd).lineStop = s.lineStop := rfl
@[simp] theorem State.setHead_ring (s : State) (h : HeadNo) (hd : Head) : (s.setHead h hd).ring = s.ring := rfl
@[simp] theorem State.setHead_store (s : State) (h : HeadNo) (hd : Head) : (s.setHead h hd).store = s.store := rfl
@[simp] theorem State.setHead_requestsInHand (s : State) (h : HeadNo) (hd : Head) : (s.setHead h hd).requestsInHand = s.requestsInHand := rfl
@[simp] theorem State.setHead_ticketsInHand (s : State) (h : HeadNo) (hd : Head) : (s.setHead h hd).ticketsInHand = s.ticketsInHand := rfl
@[simp] theorem State.setHead_pending (s : State) (h : HeadNo) (hd : Head) : (s.setHead h hd).pending = s.pending := rfl
@[simp] theorem State.setHead_slot (s : State) (h : HeadNo) (hd : Head) (other : SlotNo) : (s.setHead h hd).slot other = s.slot other := rfl
@[simp] theorem State.setHead_summary (s : State) (h : HeadNo) (hd : Head) : (s.setHead h hd).summary = s.summary := rfl

/-! ## `State.onHead` -/

@[simp] theorem State.onHead_now (s : State) (h : HeadNo) (f : Head → Head) : (s.onHead h f).now = s.now := rfl
@[simp] theorem State.onHead_tracker (s : State) (h : HeadNo) (f : Head → Head) : (s.onHead h f).tracker = s.tracker := rfl
@[simp] theorem State.onHead_infeed (s : State) (h : HeadNo) (f : Head → Head) : (s.onHead h f).infeed = s.infeed := rfl
@[simp] theorem State.onHead_recipes (s : State) (h : HeadNo) (f : Head → Head) : (s.onHead h f).recipes = s.recipes := rfl
@[simp] theorem State.onHead_valves (s : State) (h : HeadNo) (f : Head → Head) : (s.onHead h f).valves = s.valves := rfl
@[simp] theorem State.onHead_nq (s : State) (h : HeadNo) (f : Head → Head) : (s.onHead h f).nq = s.nq := rfl
@[simp] theorem State.onHead_supply (s : State) (h : HeadNo) (f : Head → Head) : (s.onHead h f).supply = s.supply := rfl
@[simp] theorem State.onHead_report (s : State) (h : HeadNo) (f : Head → Head) : (s.onHead h f).report = s.report := rfl
@[simp] theorem State.onHead_mode (s : State) (h : HeadNo) (f : Head → Head) : (s.onHead h f).mode = s.mode := rfl
@[simp] theorem State.onHead_haltCause (s : State) (h : HeadNo) (f : Head → Head) : (s.onHead h f).haltCause = s.haltCause := rfl
@[simp] theorem State.onHead_lineStop (s : State) (h : HeadNo) (f : Head → Head) : (s.onHead h f).lineStop = s.lineStop := rfl
@[simp] theorem State.onHead_ring (s : State) (h : HeadNo) (f : Head → Head) : (s.onHead h f).ring = s.ring := rfl
@[simp] theorem State.onHead_store (s : State) (h : HeadNo) (f : Head → Head) : (s.onHead h f).store = s.store := rfl
@[simp] theorem State.onHead_requestsInHand (s : State) (h : HeadNo) (f : Head → Head) : (s.onHead h f).requestsInHand = s.requestsInHand := rfl
@[simp] theorem State.onHead_ticketsInHand (s : State) (h : HeadNo) (f : Head → Head) : (s.onHead h f).ticketsInHand = s.ticketsInHand := rfl
@[simp] theorem State.onHead_pending (s : State) (h : HeadNo) (f : Head → Head) : (s.onHead h f).pending = s.pending := rfl
@[simp] theorem State.onHead_slot (s : State) (h : HeadNo) (f : Head → Head) (other : SlotNo) : (s.onHead h f).slot other = s.slot other := rfl
@[simp] theorem State.onHead_summary (s : State) (h : HeadNo) (f : Head → Head) : (s.onHead h f).summary = s.summary := rfl

/-! ## `State.onHeads` -/

@[simp] theorem State.onHeads_now (s : State) (f : HeadNo → Head → Head) : (s.onHeads f).now = s.now := by simp only [State.onHeads]
@[simp] theorem State.onHeads_tracker (s : State) (f : HeadNo → Head → Head) : (s.onHeads f).tracker = s.tracker := by simp only [State.onHeads]
@[simp] theorem State.onHeads_infeed (s : State) (f : HeadNo → Head → Head) : (s.onHeads f).infeed = s.infeed := by simp only [State.onHeads]
@[simp] theorem State.onHeads_recipes (s : State) (f : HeadNo → Head → Head) : (s.onHeads f).recipes = s.recipes := by simp only [State.onHeads]
@[simp] theorem State.onHeads_valves (s : State) (f : HeadNo → Head → Head) : (s.onHeads f).valves = s.valves := by simp only [State.onHeads]
@[simp] theorem State.onHeads_nq (s : State) (f : HeadNo → Head → Head) : (s.onHeads f).nq = s.nq := by simp only [State.onHeads]
@[simp] theorem State.onHeads_supply (s : State) (f : HeadNo → Head → Head) : (s.onHeads f).supply = s.supply := by simp only [State.onHeads]
@[simp] theorem State.onHeads_report (s : State) (f : HeadNo → Head → Head) : (s.onHeads f).report = s.report := by simp only [State.onHeads]
@[simp] theorem State.onHeads_mode (s : State) (f : HeadNo → Head → Head) : (s.onHeads f).mode = s.mode := by simp only [State.onHeads]
@[simp] theorem State.onHeads_haltCause (s : State) (f : HeadNo → Head → Head) : (s.onHeads f).haltCause = s.haltCause := by simp only [State.onHeads]
@[simp] theorem State.onHeads_lineStop (s : State) (f : HeadNo → Head → Head) : (s.onHeads f).lineStop = s.lineStop := by simp only [State.onHeads]
@[simp] theorem State.onHeads_ring (s : State) (f : HeadNo → Head → Head) : (s.onHeads f).ring = s.ring := by simp only [State.onHeads]
@[simp] theorem State.onHeads_store (s : State) (f : HeadNo → Head → Head) : (s.onHeads f).store = s.store := by simp only [State.onHeads]
@[simp] theorem State.onHeads_requestsInHand (s : State) (f : HeadNo → Head → Head) : (s.onHeads f).requestsInHand = s.requestsInHand := by simp only [State.onHeads]
@[simp] theorem State.onHeads_ticketsInHand (s : State) (f : HeadNo → Head → Head) : (s.onHeads f).ticketsInHand = s.ticketsInHand := by simp only [State.onHeads]
@[simp] theorem State.onHeads_pending (s : State) (f : HeadNo → Head → Head) : (s.onHeads f).pending = s.pending := by simp only [State.onHeads]
@[simp] theorem State.onHeads_slot (s : State) (f : HeadNo → Head → Head) (other : SlotNo) : (s.onHeads f).slot other = s.slot other := by simp only [State.onHeads, State.slot]
@[simp] theorem State.onHeads_summary (s : State) (f : HeadNo → Head → Head) : (s.onHeads f).summary = s.summary := by simp only [State.onHeads, State.summary]

/-! ## `State.setSlot` -/

@[simp] theorem State.setSlot_now (s : State) (p : SlotNo) (sl : Slot) : (s.setSlot p sl).now = s.now := rfl
@[simp] theorem State.setSlot_tracker (s : State) (p : SlotNo) (sl : Slot) : (s.setSlot p sl).tracker = s.tracker := rfl
@[simp] theorem State.setSlot_infeed (s : State) (p : SlotNo) (sl : Slot) : (s.setSlot p sl).infeed = s.infeed := rfl
@[simp] theorem State.setSlot_recipes (s : State) (p : SlotNo) (sl : Slot) : (s.setSlot p sl).recipes = s.recipes.set p sl := rfl
@[simp] theorem State.setSlot_valves (s : State) (p : SlotNo) (sl : Slot) : (s.setSlot p sl).valves = s.valves := rfl
@[simp] theorem State.setSlot_heads (s : State) (p : SlotNo) (sl : Slot) : (s.setSlot p sl).heads = s.heads := rfl
@[simp] theorem State.setSlot_nq (s : State) (p : SlotNo) (sl : Slot) : (s.setSlot p sl).nq = s.nq := rfl
@[simp] theorem State.setSlot_supply (s : State) (p : SlotNo) (sl : Slot) : (s.setSlot p sl).supply = s.supply := rfl
@[simp] theorem State.setSlot_report (s : State) (p : SlotNo) (sl : Slot) : (s.setSlot p sl).report = s.report := rfl
@[simp] theorem State.setSlot_mode (s : State) (p : SlotNo) (sl : Slot) : (s.setSlot p sl).mode = s.mode := rfl
@[simp] theorem State.setSlot_haltCause (s : State) (p : SlotNo) (sl : Slot) : (s.setSlot p sl).haltCause = s.haltCause := rfl
@[simp] theorem State.setSlot_lineStop (s : State) (p : SlotNo) (sl : Slot) : (s.setSlot p sl).lineStop = s.lineStop := rfl
@[simp] theorem State.setSlot_ring (s : State) (p : SlotNo) (sl : Slot) : (s.setSlot p sl).ring = s.ring := rfl
@[simp] theorem State.setSlot_store (s : State) (p : SlotNo) (sl : Slot) : (s.setSlot p sl).store = s.store := rfl
@[simp] theorem State.setSlot_requestsInHand (s : State) (p : SlotNo) (sl : Slot) : (s.setSlot p sl).requestsInHand = s.requestsInHand := rfl
@[simp] theorem State.setSlot_ticketsInHand (s : State) (p : SlotNo) (sl : Slot) : (s.setSlot p sl).ticketsInHand = s.ticketsInHand := rfl
@[simp] theorem State.setSlot_pending (s : State) (p : SlotNo) (sl : Slot) : (s.setSlot p sl).pending = s.pending := rfl
@[simp] theorem State.setSlot_head (s : State) (p : SlotNo) (sl : Slot) (k : HeadNo) : (s.setSlot p sl).head k = s.head k := rfl
@[simp] theorem State.setSlot_noContext (s : State) (p : SlotNo) (sl : Slot) : (s.setSlot p sl).noContext = s.noContext := rfl
@[simp] theorem State.setSlot_summary (s : State) (p : SlotNo) (sl : Slot) : (s.setSlot p sl).summary = s.summary := rfl

/-! ## `State.promoteAll` -/

@[simp] theorem State.promoteAll_now (s : State) : (s.promoteAll).now = s.now := by simp only [State.promoteAll]
@[simp] theorem State.promoteAll_tracker (s : State) : (s.promoteAll).tracker = s.tracker := by simp only [State.promoteAll]
@[simp] theorem State.promoteAll_infeed (s : State) : (s.promoteAll).infeed = s.infeed := by simp only [State.promoteAll]
@[simp] theorem State.promoteAll_valves (s : State) : (s.promoteAll).valves = s.valves := by simp only [State.promoteAll]
@[simp] theorem State.promoteAll_heads (s : State) : (s.promoteAll).heads = s.heads := by simp only [State.promoteAll]
@[simp] theorem State.promoteAll_nq (s : State) : (s.promoteAll).nq = s.nq := by simp only [State.promoteAll]
@[simp] theorem State.promoteAll_supply (s : State) : (s.promoteAll).supply = s.supply := by simp only [State.promoteAll]
@[simp] theorem State.promoteAll_report (s : State) : (s.promoteAll).report = s.report := by simp only [State.promoteAll]
@[simp] theorem State.promoteAll_mode (s : State) : (s.promoteAll).mode = s.mode := by simp only [State.promoteAll]
@[simp] theorem State.promoteAll_haltCause (s : State) : (s.promoteAll).haltCause = s.haltCause := by simp only [State.promoteAll]
@[simp] theorem State.promoteAll_lineStop (s : State) : (s.promoteAll).lineStop = s.lineStop := by simp only [State.promoteAll]
@[simp] theorem State.promoteAll_ring (s : State) : (s.promoteAll).ring = s.ring := by simp only [State.promoteAll]
@[simp] theorem State.promoteAll_store (s : State) : (s.promoteAll).store = s.store := by simp only [State.promoteAll]
@[simp] theorem State.promoteAll_requestsInHand (s : State) : (s.promoteAll).requestsInHand = s.requestsInHand := by simp only [State.promoteAll]
@[simp] theorem State.promoteAll_ticketsInHand (s : State) : (s.promoteAll).ticketsInHand = s.ticketsInHand := by simp only [State.promoteAll]
@[simp] theorem State.promoteAll_pending (s : State) : (s.promoteAll).pending = s.pending := by simp only [State.promoteAll]
@[simp] theorem State.promoteAll_head (s : State) (k : HeadNo) : (s.promoteAll).head k = s.head k := by simp only [State.promoteAll, State.head]
@[simp] theorem State.promoteAll_noContext (s : State) : (s.promoteAll).noContext = s.noContext := by simp only [State.promoteAll, State.noContext]
@[simp] theorem State.promoteAll_summary (s : State) : (s.promoteAll).summary = s.summary := by simp only [State.promoteAll, State.summary]

/-! ## `State.setInfeed` -/

@[simp] theorem State.setInfeed_now (s : State) (u : Infeed) : (s.setInfeed u).now = s.now := rfl
@[simp] theorem State.setInfeed_tracker (s : State) (u : Infeed) : (s.setInfeed u).tracker = s.tracker := rfl
@[simp] theorem State.setInfeed_infeed (s : State) (u : Infeed) : (s.setInfeed u).infeed = u := rfl
@[simp] theorem State.setInfeed_recipes (s : State) (u : Infeed) : (s.setInfeed u).recipes = s.recipes := rfl
@[simp] theorem State.setInfeed_valves (s : State) (u : Infeed) : (s.setInfeed u).valves = s.valves := rfl
@[simp] theorem State.setInfeed_heads (s : State) (u : Infeed) : (s.setInfeed u).heads = s.heads := rfl
@[simp] theorem State.setInfeed_nq (s : State) (u : Infeed) : (s.setInfeed u).nq = s.nq := rfl
@[simp] theorem State.setInfeed_supply (s : State) (u : Infeed) : (s.setInfeed u).supply = s.supply := rfl
@[simp] theorem State.setInfeed_report (s : State) (u : Infeed) : (s.setInfeed u).report = s.report := rfl
@[simp] theorem State.setInfeed_mode (s : State) (u : Infeed) : (s.setInfeed u).mode = s.mode := rfl
@[simp] theorem State.setInfeed_haltCause (s : State) (u : Infeed) : (s.setInfeed u).haltCause = s.haltCause := rfl
@[simp] theorem State.setInfeed_lineStop (s : State) (u : Infeed) : (s.setInfeed u).lineStop = s.lineStop := rfl
@[simp] theorem State.setInfeed_ring (s : State) (u : Infeed) : (s.setInfeed u).ring = s.ring := rfl
@[simp] theorem State.setInfeed_store (s : State) (u : Infeed) : (s.setInfeed u).store = s.store := rfl
@[simp] theorem State.setInfeed_requestsInHand (s : State) (u : Infeed) : (s.setInfeed u).requestsInHand = s.requestsInHand := rfl
@[simp] theorem State.setInfeed_ticketsInHand (s : State) (u : Infeed) : (s.setInfeed u).ticketsInHand = s.ticketsInHand := rfl
@[simp] theorem State.setInfeed_pending (s : State) (u : Infeed) : (s.setInfeed u).pending = s.pending := rfl
@[simp] theorem State.setInfeed_head (s : State) (u : Infeed) (k : HeadNo) : (s.setInfeed u).head k = s.head k := rfl
@[simp] theorem State.setInfeed_noContext (s : State) (u : Infeed) : (s.setInfeed u).noContext = s.noContext := rfl
@[simp] theorem State.setInfeed_slot (s : State) (u : Infeed) (other : SlotNo) : (s.setInfeed u).slot other = s.slot other := rfl
@[simp] theorem State.setInfeed_summary (s : State) (u : Infeed) : (s.setInfeed u).summary = s.summary := rfl

/-! ## `State.setTracker` -/

@[simp] theorem State.setTracker_now (s : State) (t : Tracker) : (s.setTracker t).now = s.now := rfl
@[simp] theorem State.setTracker_tracker (s : State) (t : Tracker) : (s.setTracker t).tracker = t := rfl
@[simp] theorem State.setTracker_infeed (s : State) (t : Tracker) : (s.setTracker t).infeed = s.infeed := rfl
@[simp] theorem State.setTracker_recipes (s : State) (t : Tracker) : (s.setTracker t).recipes = s.recipes := rfl
@[simp] theorem State.setTracker_valves (s : State) (t : Tracker) : (s.setTracker t).valves = s.valves := rfl
@[simp] theorem State.setTracker_heads (s : State) (t : Tracker) : (s.setTracker t).heads = s.heads := rfl
@[simp] theorem State.setTracker_nq (s : State) (t : Tracker) : (s.setTracker t).nq = s.nq := rfl
@[simp] theorem State.setTracker_supply (s : State) (t : Tracker) : (s.setTracker t).supply = s.supply := rfl
@[simp] theorem State.setTracker_report (s : State) (t : Tracker) : (s.setTracker t).report = s.report := rfl
@[simp] theorem State.setTracker_mode (s : State) (t : Tracker) : (s.setTracker t).mode = s.mode := rfl
@[simp] theorem State.setTracker_haltCause (s : State) (t : Tracker) : (s.setTracker t).haltCause = s.haltCause := rfl
@[simp] theorem State.setTracker_lineStop (s : State) (t : Tracker) : (s.setTracker t).lineStop = s.lineStop := rfl
@[simp] theorem State.setTracker_ring (s : State) (t : Tracker) : (s.setTracker t).ring = s.ring := rfl
@[simp] theorem State.setTracker_store (s : State) (t : Tracker) : (s.setTracker t).store = s.store := rfl
@[simp] theorem State.setTracker_requestsInHand (s : State) (t : Tracker) : (s.setTracker t).requestsInHand = s.requestsInHand := rfl
@[simp] theorem State.setTracker_ticketsInHand (s : State) (t : Tracker) : (s.setTracker t).ticketsInHand = s.ticketsInHand := rfl
@[simp] theorem State.setTracker_pending (s : State) (t : Tracker) : (s.setTracker t).pending = s.pending := rfl
@[simp] theorem State.setTracker_head (s : State) (t : Tracker) (k : HeadNo) : (s.setTracker t).head k = s.head k := rfl
@[simp] theorem State.setTracker_noContext (s : State) (t : Tracker) : (s.setTracker t).noContext = s.noContext := rfl
@[simp] theorem State.setTracker_slot (s : State) (t : Tracker) (other : SlotNo) : (s.setTracker t).slot other = s.slot other := rfl
@[simp] theorem State.setTracker_summary (s : State) (t : Tracker) : (s.setTracker t).summary = s.summary := rfl

/-! ## `State.raise` -/

@[simp] theorem State.raise_now (s : State) (f : AttentionFlag) : (s.raise f).now = s.now := rfl
@[simp] theorem State.raise_tracker (s : State) (f : AttentionFlag) : (s.raise f).tracker = s.tracker := rfl
@[simp] theorem State.raise_infeed (s : State) (f : AttentionFlag) : (s.raise f).infeed = s.infeed := rfl
@[simp] theorem State.raise_recipes (s : State) (f : AttentionFlag) : (s.raise f).recipes = s.recipes := rfl
@[simp] theorem State.raise_valves (s : State) (f : AttentionFlag) : (s.raise f).valves = s.valves := rfl
@[simp] theorem State.raise_heads (s : State) (f : AttentionFlag) : (s.raise f).heads = s.heads := rfl
@[simp] theorem State.raise_nq (s : State) (f : AttentionFlag) : (s.raise f).nq = s.nq := rfl
@[simp] theorem State.raise_supply (s : State) (f : AttentionFlag) : (s.raise f).supply = s.supply := rfl
@[simp] theorem State.raise_report (s : State) (f : AttentionFlag) : (s.raise f).report = { s.report with flags := s.report.flags ||| f.mark } := rfl
@[simp] theorem State.raise_mode (s : State) (f : AttentionFlag) : (s.raise f).mode = s.mode := rfl
@[simp] theorem State.raise_haltCause (s : State) (f : AttentionFlag) : (s.raise f).haltCause = s.haltCause := rfl
@[simp] theorem State.raise_lineStop (s : State) (f : AttentionFlag) : (s.raise f).lineStop = s.lineStop := rfl
@[simp] theorem State.raise_ring (s : State) (f : AttentionFlag) : (s.raise f).ring = s.ring := rfl
@[simp] theorem State.raise_store (s : State) (f : AttentionFlag) : (s.raise f).store = s.store := rfl
@[simp] theorem State.raise_requestsInHand (s : State) (f : AttentionFlag) : (s.raise f).requestsInHand = s.requestsInHand := rfl
@[simp] theorem State.raise_ticketsInHand (s : State) (f : AttentionFlag) : (s.raise f).ticketsInHand = s.ticketsInHand := rfl
@[simp] theorem State.raise_pending (s : State) (f : AttentionFlag) : (s.raise f).pending = s.pending := rfl
@[simp] theorem State.raise_head (s : State) (f : AttentionFlag) (k : HeadNo) : (s.raise f).head k = s.head k := rfl
@[simp] theorem State.raise_noContext (s : State) (f : AttentionFlag) : (s.raise f).noContext = s.noContext := rfl
@[simp] theorem State.raise_slot (s : State) (f : AttentionFlag) (other : SlotNo) : (s.raise f).slot other = s.slot other := rfl

/-! ## `State.bumpPart` -/

@[simp] theorem State.bumpPart_now (s : State) (f : PartCounters → PartCounters) : (s.bumpPart f).now = s.now := rfl
@[simp] theorem State.bumpPart_tracker (s : State) (f : PartCounters → PartCounters) : (s.bumpPart f).tracker = s.tracker := rfl
@[simp] theorem State.bumpPart_infeed (s : State) (f : PartCounters → PartCounters) : (s.bumpPart f).infeed = s.infeed := rfl
@[simp] theorem State.bumpPart_recipes (s : State) (f : PartCounters → PartCounters) : (s.bumpPart f).recipes = s.recipes := rfl
@[simp] theorem State.bumpPart_valves (s : State) (f : PartCounters → PartCounters) : (s.bumpPart f).valves = s.valves := rfl
@[simp] theorem State.bumpPart_heads (s : State) (f : PartCounters → PartCounters) : (s.bumpPart f).heads = s.heads := rfl
@[simp] theorem State.bumpPart_nq (s : State) (f : PartCounters → PartCounters) : (s.bumpPart f).nq = s.nq := rfl
@[simp] theorem State.bumpPart_supply (s : State) (f : PartCounters → PartCounters) : (s.bumpPart f).supply = s.supply := rfl
@[simp] theorem State.bumpPart_report (s : State) (f : PartCounters → PartCounters) : (s.bumpPart f).report = { s.report with part := f s.report.part } := rfl
@[simp] theorem State.bumpPart_mode (s : State) (f : PartCounters → PartCounters) : (s.bumpPart f).mode = s.mode := rfl
@[simp] theorem State.bumpPart_haltCause (s : State) (f : PartCounters → PartCounters) : (s.bumpPart f).haltCause = s.haltCause := rfl
@[simp] theorem State.bumpPart_lineStop (s : State) (f : PartCounters → PartCounters) : (s.bumpPart f).lineStop = s.lineStop := rfl
@[simp] theorem State.bumpPart_ring (s : State) (f : PartCounters → PartCounters) : (s.bumpPart f).ring = s.ring := rfl
@[simp] theorem State.bumpPart_store (s : State) (f : PartCounters → PartCounters) : (s.bumpPart f).store = s.store := rfl
@[simp] theorem State.bumpPart_requestsInHand (s : State) (f : PartCounters → PartCounters) : (s.bumpPart f).requestsInHand = s.requestsInHand := rfl
@[simp] theorem State.bumpPart_ticketsInHand (s : State) (f : PartCounters → PartCounters) : (s.bumpPart f).ticketsInHand = s.ticketsInHand := rfl
@[simp] theorem State.bumpPart_pending (s : State) (f : PartCounters → PartCounters) : (s.bumpPart f).pending = s.pending := rfl
@[simp] theorem State.bumpPart_head (s : State) (f : PartCounters → PartCounters) (k : HeadNo) : (s.bumpPart f).head k = s.head k := rfl
@[simp] theorem State.bumpPart_noContext (s : State) (f : PartCounters → PartCounters) : (s.bumpPart f).noContext = s.noContext := rfl
@[simp] theorem State.bumpPart_slot (s : State) (f : PartCounters → PartCounters) (other : SlotNo) : (s.bumpPart f).slot other = s.slot other := rfl

/-! ## `State.bumpHead` -/

@[simp] theorem State.bumpHead_now (s : State) (h : HeadNo) (f : HeadCounters → HeadCounters) : (s.bumpHead h f).now = s.now := rfl
@[simp] theorem State.bumpHead_tracker (s : State) (h : HeadNo) (f : HeadCounters → HeadCounters) : (s.bumpHead h f).tracker = s.tracker := rfl
@[simp] theorem State.bumpHead_infeed (s : State) (h : HeadNo) (f : HeadCounters → HeadCounters) : (s.bumpHead h f).infeed = s.infeed := rfl
@[simp] theorem State.bumpHead_recipes (s : State) (h : HeadNo) (f : HeadCounters → HeadCounters) : (s.bumpHead h f).recipes = s.recipes := rfl
@[simp] theorem State.bumpHead_valves (s : State) (h : HeadNo) (f : HeadCounters → HeadCounters) : (s.bumpHead h f).valves = s.valves := rfl
@[simp] theorem State.bumpHead_heads (s : State) (h : HeadNo) (f : HeadCounters → HeadCounters) : (s.bumpHead h f).heads = s.heads := rfl
@[simp] theorem State.bumpHead_nq (s : State) (h : HeadNo) (f : HeadCounters → HeadCounters) : (s.bumpHead h f).nq = s.nq := rfl
@[simp] theorem State.bumpHead_supply (s : State) (h : HeadNo) (f : HeadCounters → HeadCounters) : (s.bumpHead h f).supply = s.supply := rfl
@[simp] theorem State.bumpHead_report (s : State) (h : HeadNo) (f : HeadCounters → HeadCounters) : (s.bumpHead h f).report = { s.report with heads := s.report.heads.set h (f s.report.heads[h]) } := rfl
@[simp] theorem State.bumpHead_mode (s : State) (h : HeadNo) (f : HeadCounters → HeadCounters) : (s.bumpHead h f).mode = s.mode := rfl
@[simp] theorem State.bumpHead_haltCause (s : State) (h : HeadNo) (f : HeadCounters → HeadCounters) : (s.bumpHead h f).haltCause = s.haltCause := rfl
@[simp] theorem State.bumpHead_lineStop (s : State) (h : HeadNo) (f : HeadCounters → HeadCounters) : (s.bumpHead h f).lineStop = s.lineStop := rfl
@[simp] theorem State.bumpHead_ring (s : State) (h : HeadNo) (f : HeadCounters → HeadCounters) : (s.bumpHead h f).ring = s.ring := rfl
@[simp] theorem State.bumpHead_store (s : State) (h : HeadNo) (f : HeadCounters → HeadCounters) : (s.bumpHead h f).store = s.store := rfl
@[simp] theorem State.bumpHead_requestsInHand (s : State) (h : HeadNo) (f : HeadCounters → HeadCounters) : (s.bumpHead h f).requestsInHand = s.requestsInHand := rfl
@[simp] theorem State.bumpHead_ticketsInHand (s : State) (h : HeadNo) (f : HeadCounters → HeadCounters) : (s.bumpHead h f).ticketsInHand = s.ticketsInHand := rfl
@[simp] theorem State.bumpHead_pending (s : State) (h : HeadNo) (f : HeadCounters → HeadCounters) : (s.bumpHead h f).pending = s.pending := rfl
@[simp] theorem State.bumpHead_head (s : State) (h : HeadNo) (f : HeadCounters → HeadCounters) (k : HeadNo) : (s.bumpHead h f).head k = s.head k := rfl
@[simp] theorem State.bumpHead_noContext (s : State) (h : HeadNo) (f : HeadCounters → HeadCounters) : (s.bumpHead h f).noContext = s.noContext := rfl
@[simp] theorem State.bumpHead_slot (s : State) (h : HeadNo) (f : HeadCounters → HeadCounters) (other : SlotNo) : (s.bumpHead h f).slot other = s.slot other := rfl

/-! ## `State.sendRelay` -/

@[simp] theorem State.sendRelay_now (s : State) (f : List Byte) (q : List (List Byte)) : (s.sendRelay f q).now = s.now := rfl
@[simp] theorem State.sendRelay_tracker (s : State) (f : List Byte) (q : List (List Byte)) : (s.sendRelay f q).tracker = s.tracker := rfl
@[simp] theorem State.sendRelay_infeed (s : State) (f : List Byte) (q : List (List Byte)) : (s.sendRelay f q).infeed = s.infeed := rfl
@[simp] theorem State.sendRelay_recipes (s : State) (f : List Byte) (q : List (List Byte)) : (s.sendRelay f q).recipes = s.recipes := rfl
@[simp] theorem State.sendRelay_valves (s : State) (f : List Byte) (q : List (List Byte)) : (s.sendRelay f q).valves = s.valves := rfl
@[simp] theorem State.sendRelay_heads (s : State) (f : List Byte) (q : List (List Byte)) : (s.sendRelay f q).heads = s.heads := rfl
@[simp] theorem State.sendRelay_nq (s : State) (f : List Byte) (q : List (List Byte)) : (s.sendRelay f q).nq = s.nq := rfl
@[simp] theorem State.sendRelay_supply (s : State) (f : List Byte) (q : List (List Byte)) : (s.sendRelay f q).supply = s.supply := rfl
@[simp] theorem State.sendRelay_report (s : State) (f : List Byte) (q : List (List Byte)) : (s.sendRelay f q).report = s.report := rfl
@[simp] theorem State.sendRelay_mode (s : State) (f : List Byte) (q : List (List Byte)) : (s.sendRelay f q).mode = s.mode := rfl
@[simp] theorem State.sendRelay_haltCause (s : State) (f : List Byte) (q : List (List Byte)) : (s.sendRelay f q).haltCause = s.haltCause := rfl
@[simp] theorem State.sendRelay_lineStop (s : State) (f : List Byte) (q : List (List Byte)) : (s.sendRelay f q).lineStop = s.lineStop := rfl
@[simp] theorem State.sendRelay_store (s : State) (f : List Byte) (q : List (List Byte)) : (s.sendRelay f q).store = s.store := rfl
@[simp] theorem State.sendRelay_requestsInHand (s : State) (f : List Byte) (q : List (List Byte)) : (s.sendRelay f q).requestsInHand = s.requestsInHand := rfl
@[simp] theorem State.sendRelay_ticketsInHand (s : State) (f : List Byte) (q : List (List Byte)) : (s.sendRelay f q).ticketsInHand = s.ticketsInHand := rfl
@[simp] theorem State.sendRelay_pending (s : State) (f : List Byte) (q : List (List Byte)) : (s.sendRelay f q).pending = s.pending := rfl
@[simp] theorem State.sendRelay_head (s : State) (f : List Byte) (q : List (List Byte)) (k : HeadNo) : (s.sendRelay f q).head k = s.head k := rfl
@[simp] theorem State.sendRelay_noContext (s : State) (f : List Byte) (q : List (List Byte)) : (s.sendRelay f q).noContext = s.noContext := rfl
@[simp] theorem State.sendRelay_slot (s : State) (f : List Byte) (q : List (List Byte)) (other : SlotNo) : (s.sendRelay f q).slot other = s.slot other := rfl
@[simp] theorem State.sendRelay_summary (s : State) (f : List Byte) (q : List (List Byte)) : (s.sendRelay f q).summary = s.summary := rfl

/-! ## `State.sendOrigin` -/

@[simp] theorem State.sendOrigin_now (s : State) (f : OriginFrame) (q : List OriginFrame) : (s.sendOrigin f q).now = s.now := rfl
@[simp] theorem State.sendOrigin_tracker (s : State) (f : OriginFrame) (q : List OriginFrame) : (s.sendOrigin f q).tracker = s.tracker := rfl
@[simp] theorem State.sendOrigin_infeed (s : State) (f : OriginFrame) (q : List OriginFrame) : (s.sendOrigin f q).infeed = s.infeed := rfl
@[simp] theorem State.sendOrigin_recipes (s : State) (f : OriginFrame) (q : List OriginFrame) : (s.sendOrigin f q).recipes = s.recipes := rfl
@[simp] theorem State.sendOrigin_valves (s : State) (f : OriginFrame) (q : List OriginFrame) : (s.sendOrigin f q).valves = s.valves := rfl
@[simp] theorem State.sendOrigin_heads (s : State) (f : OriginFrame) (q : List OriginFrame) : (s.sendOrigin f q).heads = s.heads := rfl
@[simp] theorem State.sendOrigin_nq (s : State) (f : OriginFrame) (q : List OriginFrame) : (s.sendOrigin f q).nq = s.nq := rfl
@[simp] theorem State.sendOrigin_supply (s : State) (f : OriginFrame) (q : List OriginFrame) : (s.sendOrigin f q).supply = s.supply := rfl
@[simp] theorem State.sendOrigin_report (s : State) (f : OriginFrame) (q : List OriginFrame) : (s.sendOrigin f q).report = s.report := rfl
@[simp] theorem State.sendOrigin_mode (s : State) (f : OriginFrame) (q : List OriginFrame) : (s.sendOrigin f q).mode = s.mode := rfl
@[simp] theorem State.sendOrigin_haltCause (s : State) (f : OriginFrame) (q : List OriginFrame) : (s.sendOrigin f q).haltCause = s.haltCause := rfl
@[simp] theorem State.sendOrigin_lineStop (s : State) (f : OriginFrame) (q : List OriginFrame) : (s.sendOrigin f q).lineStop = s.lineStop := rfl
@[simp] theorem State.sendOrigin_store (s : State) (f : OriginFrame) (q : List OriginFrame) : (s.sendOrigin f q).store = s.store := rfl
@[simp] theorem State.sendOrigin_requestsInHand (s : State) (f : OriginFrame) (q : List OriginFrame) : (s.sendOrigin f q).requestsInHand = s.requestsInHand := rfl
@[simp] theorem State.sendOrigin_ticketsInHand (s : State) (f : OriginFrame) (q : List OriginFrame) : (s.sendOrigin f q).ticketsInHand = s.ticketsInHand := rfl
@[simp] theorem State.sendOrigin_pending (s : State) (f : OriginFrame) (q : List OriginFrame) : (s.sendOrigin f q).pending = s.pending := rfl
@[simp] theorem State.sendOrigin_head (s : State) (f : OriginFrame) (q : List OriginFrame) (k : HeadNo) : (s.sendOrigin f q).head k = s.head k := rfl
@[simp] theorem State.sendOrigin_noContext (s : State) (f : OriginFrame) (q : List OriginFrame) : (s.sendOrigin f q).noContext = s.noContext := rfl
@[simp] theorem State.sendOrigin_slot (s : State) (f : OriginFrame) (q : List OriginFrame) (other : SlotNo) : (s.sendOrigin f q).slot other = s.slot other := rfl
@[simp] theorem State.sendOrigin_summary (s : State) (f : OriginFrame) (q : List OriginFrame) : (s.sendOrigin f q).summary = s.summary := rfl

/-! ## `State.loseReply` -/

@[simp] theorem State.loseReply_now (s : State) : (s.loseReply).now = s.now := rfl
@[simp] theorem State.loseReply_tracker (s : State) : (s.loseReply).tracker = s.tracker := rfl
@[simp] theorem State.loseReply_infeed (s : State) : (s.loseReply).infeed = s.infeed := rfl
@[simp] theorem State.loseReply_recipes (s : State) : (s.loseReply).recipes = s.recipes := rfl
@[simp] theorem State.loseReply_valves (s : State) : (s.loseReply).valves = s.valves := rfl
@[simp] theorem State.loseReply_heads (s : State) : (s.loseReply).heads = s.heads := rfl
@[simp] theorem State.loseReply_nq (s : State) : (s.loseReply).nq = s.nq := rfl
@[simp] theorem State.loseReply_supply (s : State) : (s.loseReply).supply = s.supply := rfl
@[simp] theorem State.loseReply_mode (s : State) : (s.loseReply).mode = s.mode := rfl
@[simp] theorem State.loseReply_haltCause (s : State) : (s.loseReply).haltCause = s.haltCause := rfl
@[simp] theorem State.loseReply_lineStop (s : State) : (s.loseReply).lineStop = s.lineStop := rfl
@[simp] theorem State.loseReply_ring (s : State) : (s.loseReply).ring = s.ring := rfl
@[simp] theorem State.loseReply_store (s : State) : (s.loseReply).store = s.store := rfl
@[simp] theorem State.loseReply_requestsInHand (s : State) : (s.loseReply).requestsInHand = s.requestsInHand := rfl
@[simp] theorem State.loseReply_ticketsInHand (s : State) : (s.loseReply).ticketsInHand = s.ticketsInHand := rfl
@[simp] theorem State.loseReply_pending (s : State) : (s.loseReply).pending = s.pending := rfl
@[simp] theorem State.loseReply_head (s : State) (k : HeadNo) : (s.loseReply).head k = s.head k := rfl
@[simp] theorem State.loseReply_noContext (s : State) : (s.loseReply).noContext = s.noContext := rfl
@[simp] theorem State.loseReply_slot (s : State) (other : SlotNo) : (s.loseReply).slot other = s.slot other := rfl

/-! ## `State.dropRequestInHand` -/

@[simp] theorem State.dropRequestInHand_now (s : State) : s.dropRequestInHand.now = s.now := rfl
@[simp] theorem State.dropRequestInHand_tracker (s : State) : s.dropRequestInHand.tracker = s.tracker := rfl
@[simp] theorem State.dropRequestInHand_infeed (s : State) : s.dropRequestInHand.infeed = s.infeed := rfl
@[simp] theorem State.dropRequestInHand_recipes (s : State) : s.dropRequestInHand.recipes = s.recipes := rfl
@[simp] theorem State.dropRequestInHand_valves (s : State) : s.dropRequestInHand.valves = s.valves := rfl
@[simp] theorem State.dropRequestInHand_heads (s : State) : s.dropRequestInHand.heads = s.heads := rfl
@[simp] theorem State.dropRequestInHand_nq (s : State) : s.dropRequestInHand.nq = s.nq := rfl
@[simp] theorem State.dropRequestInHand_supply (s : State) : s.dropRequestInHand.supply = s.supply := rfl
@[simp] theorem State.dropRequestInHand_report (s : State) : s.dropRequestInHand.report = s.report := rfl
@[simp] theorem State.dropRequestInHand_mode (s : State) : s.dropRequestInHand.mode = s.mode := rfl
@[simp] theorem State.dropRequestInHand_haltCause (s : State) : s.dropRequestInHand.haltCause = s.haltCause := rfl
@[simp] theorem State.dropRequestInHand_lineStop (s : State) : s.dropRequestInHand.lineStop = s.lineStop := rfl
@[simp] theorem State.dropRequestInHand_ring (s : State) : s.dropRequestInHand.ring = s.ring := rfl
@[simp] theorem State.dropRequestInHand_store (s : State) : s.dropRequestInHand.store = s.store := rfl
@[simp] theorem State.dropRequestInHand_requestsInHand (s : State) : s.dropRequestInHand.requestsInHand = s.requestsInHand.tail := rfl
@[simp] theorem State.dropRequestInHand_ticketsInHand (s : State) : s.dropRequestInHand.ticketsInHand = s.ticketsInHand := rfl
@[simp] theorem State.dropRequestInHand_pending (s : State) : s.dropRequestInHand.pending = s.pending := rfl
@[simp] theorem State.dropRequestInHand_head (s : State) (k : HeadNo) : s.dropRequestInHand.head k = s.head k := rfl
@[simp] theorem State.dropRequestInHand_noContext (s : State) : s.dropRequestInHand.noContext = s.noContext := rfl
@[simp] theorem State.dropRequestInHand_slot (s : State) (other : SlotNo) : s.dropRequestInHand.slot other = s.slot other := rfl
@[simp] theorem State.dropRequestInHand_summary (s : State) : s.dropRequestInHand.summary = s.summary := rfl

/-! ## `State.dropTicketInHand` -/

@[simp] theorem State.dropTicketInHand_now (s : State) : s.dropTicketInHand.now = s.now := rfl
@[simp] theorem State.dropTicketInHand_tracker (s : State) : s.dropTicketInHand.tracker = s.tracker := rfl
@[simp] theorem State.dropTicketInHand_infeed (s : State) : s.dropTicketInHand.infeed = s.infeed := rfl
@[simp] theorem State.dropTicketInHand_recipes (s : State) : s.dropTicketInHand.recipes = s.recipes := rfl
@[simp] theorem State.dropTicketInHand_valves (s : State) : s.dropTicketInHand.valves = s.valves := rfl
@[simp] theorem State.dropTicketInHand_heads (s : State) : s.dropTicketInHand.heads = s.heads := rfl
@[simp] theorem State.dropTicketInHand_nq (s : State) : s.dropTicketInHand.nq = s.nq := rfl
@[simp] theorem State.dropTicketInHand_supply (s : State) : s.dropTicketInHand.supply = s.supply := rfl
@[simp] theorem State.dropTicketInHand_report (s : State) : s.dropTicketInHand.report = s.report := rfl
@[simp] theorem State.dropTicketInHand_mode (s : State) : s.dropTicketInHand.mode = s.mode := rfl
@[simp] theorem State.dropTicketInHand_haltCause (s : State) : s.dropTicketInHand.haltCause = s.haltCause := rfl
@[simp] theorem State.dropTicketInHand_lineStop (s : State) : s.dropTicketInHand.lineStop = s.lineStop := rfl
@[simp] theorem State.dropTicketInHand_ring (s : State) : s.dropTicketInHand.ring = s.ring := rfl
@[simp] theorem State.dropTicketInHand_store (s : State) : s.dropTicketInHand.store = s.store := rfl
@[simp] theorem State.dropTicketInHand_requestsInHand (s : State) : s.dropTicketInHand.requestsInHand = s.requestsInHand := rfl
@[simp] theorem State.dropTicketInHand_ticketsInHand (s : State) : s.dropTicketInHand.ticketsInHand = s.ticketsInHand.tail := rfl
@[simp] theorem State.dropTicketInHand_pending (s : State) : s.dropTicketInHand.pending = s.pending := rfl
@[simp] theorem State.dropTicketInHand_head (s : State) (k : HeadNo) : s.dropTicketInHand.head k = s.head k := rfl
@[simp] theorem State.dropTicketInHand_noContext (s : State) : s.dropTicketInHand.noContext = s.noContext := rfl
@[simp] theorem State.dropTicketInHand_slot (s : State) (other : SlotNo) : s.dropTicketInHand.slot other = s.slot other := rfl
@[simp] theorem State.dropTicketInHand_summary (s : State) : s.dropTicketInHand.summary = s.summary := rfl

/-! ## `State.startStore` -/

@[simp] theorem State.startStore_now (s : State) (op : StoreOp) : (s.startStore op).now = s.now := rfl
@[simp] theorem State.startStore_tracker (s : State) (op : StoreOp) : (s.startStore op).tracker = s.tracker := rfl
@[simp] theorem State.startStore_infeed (s : State) (op : StoreOp) : (s.startStore op).infeed = s.infeed := rfl
@[simp] theorem State.startStore_recipes (s : State) (op : StoreOp) : (s.startStore op).recipes = s.recipes := rfl
@[simp] theorem State.startStore_valves (s : State) (op : StoreOp) : (s.startStore op).valves = s.valves := rfl
@[simp] theorem State.startStore_heads (s : State) (op : StoreOp) : (s.startStore op).heads = s.heads := rfl
@[simp] theorem State.startStore_nq (s : State) (op : StoreOp) : (s.startStore op).nq = s.nq := rfl
@[simp] theorem State.startStore_supply (s : State) (op : StoreOp) : (s.startStore op).supply = s.supply := rfl
@[simp] theorem State.startStore_report (s : State) (op : StoreOp) : (s.startStore op).report = s.report := rfl
@[simp] theorem State.startStore_mode (s : State) (op : StoreOp) : (s.startStore op).mode = s.mode := rfl
@[simp] theorem State.startStore_haltCause (s : State) (op : StoreOp) : (s.startStore op).haltCause = s.haltCause := rfl
@[simp] theorem State.startStore_lineStop (s : State) (op : StoreOp) : (s.startStore op).lineStop = s.lineStop := rfl
@[simp] theorem State.startStore_ring (s : State) (op : StoreOp) : (s.startStore op).ring = s.ring := rfl
@[simp] theorem State.startStore_requestsInHand (s : State) (op : StoreOp) : (s.startStore op).requestsInHand = s.requestsInHand := rfl
@[simp] theorem State.startStore_ticketsInHand (s : State) (op : StoreOp) : (s.startStore op).ticketsInHand = s.ticketsInHand := rfl
@[simp] theorem State.startStore_pending (s : State) (op : StoreOp) : (s.startStore op).pending = s.pending := rfl
@[simp] theorem State.startStore_head (s : State) (op : StoreOp) (k : HeadNo) : (s.startStore op).head k = s.head k := rfl
@[simp] theorem State.startStore_noContext (s : State) (op : StoreOp) : (s.startStore op).noContext = s.noContext := rfl
@[simp] theorem State.startStore_slot (s : State) (op : StoreOp) (other : SlotNo) : (s.startStore op).slot other = s.slot other := rfl
@[simp] theorem State.startStore_summary (s : State) (op : StoreOp) : (s.startStore op).summary = s.summary := rfl

/-! ## `State.enterRun` -/

@[simp] theorem State.enterRun_now (s : State) : (s.enterRun).now = s.now := rfl
@[simp] theorem State.enterRun_tracker (s : State) : (s.enterRun).tracker = { s.tracker with pValid := false, marksSeen := 0 } := rfl
@[simp] theorem State.enterRun_infeed (s : State) : (s.enterRun).infeed = s.infeed := rfl
@[simp] theorem State.enterRun_recipes (s : State) : (s.enterRun).recipes = s.recipes := rfl
@[simp] theorem State.enterRun_valves (s : State) : (s.enterRun).valves = s.valves := rfl
@[simp] theorem State.enterRun_heads (s : State) : (s.enterRun).heads = s.heads := rfl
@[simp] theorem State.enterRun_nq (s : State) : (s.enterRun).nq = s.nq := rfl
@[simp] theorem State.enterRun_supply (s : State) : (s.enterRun).supply = s.supply := rfl
@[simp] theorem State.enterRun_report (s : State) : (s.enterRun).report = s.report := rfl
@[simp] theorem State.enterRun_mode (s : State) : (s.enterRun).mode = .run := rfl
@[simp] theorem State.enterRun_haltCause (s : State) : (s.enterRun).haltCause = .none := rfl
@[simp] theorem State.enterRun_lineStop (s : State) : (s.enterRun).lineStop = false := rfl
@[simp] theorem State.enterRun_ring (s : State) : (s.enterRun).ring = s.ring := rfl
@[simp] theorem State.enterRun_store (s : State) : (s.enterRun).store = s.store := rfl
@[simp] theorem State.enterRun_requestsInHand (s : State) : (s.enterRun).requestsInHand = s.requestsInHand := rfl
@[simp] theorem State.enterRun_ticketsInHand (s : State) : (s.enterRun).ticketsInHand = s.ticketsInHand := rfl
@[simp] theorem State.enterRun_pending (s : State) : (s.enterRun).pending = s.pending := rfl
@[simp] theorem State.enterRun_head (s : State) (k : HeadNo) : (s.enterRun).head k = s.head k := rfl
@[simp] theorem State.enterRun_noContext (s : State) : (s.enterRun).noContext = s.noContext := rfl
@[simp] theorem State.enterRun_slot (s : State) (other : SlotNo) : (s.enterRun).slot other = s.slot other := rfl
@[simp] theorem State.enterRun_summary (s : State) : (s.enterRun).summary = s.summary := rfl

/-! ## `State.enterStandby` -/

@[simp] theorem State.enterStandby_now (s : State) : (s.enterStandby).now = s.now := by simp only [State.enterStandby, State.promoteAll]
@[simp] theorem State.enterStandby_tracker (s : State) : (s.enterStandby).tracker = s.tracker := by simp only [State.enterStandby, State.promoteAll]
@[simp] theorem State.enterStandby_infeed (s : State) : (s.enterStandby).infeed = s.infeed := by simp only [State.enterStandby, State.promoteAll]
@[simp] theorem State.enterStandby_valves (s : State) : (s.enterStandby).valves = s.valves := by simp only [State.enterStandby, State.promoteAll]
@[simp] theorem State.enterStandby_heads (s : State) : (s.enterStandby).heads = s.heads := by simp only [State.enterStandby, State.promoteAll]
@[simp] theorem State.enterStandby_nq (s : State) : (s.enterStandby).nq = s.nq := by simp only [State.enterStandby, State.promoteAll]
@[simp] theorem State.enterStandby_supply (s : State) : (s.enterStandby).supply = s.supply := by simp only [State.enterStandby, State.promoteAll]
@[simp] theorem State.enterStandby_report (s : State) : (s.enterStandby).report = s.report := by simp only [State.enterStandby, State.promoteAll]
@[simp] theorem State.enterStandby_mode (s : State) : (s.enterStandby).mode = .standby := by simp only [State.enterStandby, State.promoteAll]
@[simp] theorem State.enterStandby_haltCause (s : State) : (s.enterStandby).haltCause = .none := by simp only [State.enterStandby, State.promoteAll]
@[simp] theorem State.enterStandby_lineStop (s : State) : (s.enterStandby).lineStop = false := by simp only [State.enterStandby, State.promoteAll]
@[simp] theorem State.enterStandby_ring (s : State) : (s.enterStandby).ring = s.ring := by simp only [State.enterStandby, State.promoteAll]
@[simp] theorem State.enterStandby_store (s : State) : (s.enterStandby).store = s.store := by simp only [State.enterStandby, State.promoteAll]
@[simp] theorem State.enterStandby_requestsInHand (s : State) : (s.enterStandby).requestsInHand = s.requestsInHand := by simp only [State.enterStandby, State.promoteAll]
@[simp] theorem State.enterStandby_ticketsInHand (s : State) : (s.enterStandby).ticketsInHand = s.ticketsInHand := by simp only [State.enterStandby, State.promoteAll]
@[simp] theorem State.enterStandby_pending (s : State) : (s.enterStandby).pending = s.pending := by simp only [State.enterStandby, State.promoteAll]
@[simp] theorem State.enterStandby_head (s : State) (k : HeadNo) : (s.enterStandby).head k = s.head k := by simp only [State.enterStandby, State.promoteAll, State.head]
@[simp] theorem State.enterStandby_noContext (s : State) : (s.enterStandby).noContext = s.noContext := by simp only [State.enterStandby, State.promoteAll, State.noContext]
@[simp] theorem State.enterStandby_summary (s : State) : (s.enterStandby).summary = s.summary := by simp only [State.enterStandby, State.promoteAll, State.summary]

/-! ## `State.enterHalt` -/

@[simp] theorem State.enterHalt_now (s : State) (c : HaltCause) : (s.enterHalt c).now = s.now := by simp only [State.enterHalt, State.promoteAll, State.raise, State.onHeads, AttentionFlag.mark]
@[simp] theorem State.enterHalt_tracker (s : State) (c : HaltCause) : (s.enterHalt c).tracker = s.tracker := by simp only [State.enterHalt, State.promoteAll, State.raise, State.onHeads, AttentionFlag.mark]
@[simp] theorem State.enterHalt_infeed (s : State) (c : HaltCause) : (s.enterHalt c).infeed = s.infeed := by simp only [State.enterHalt, State.promoteAll, State.raise, State.onHeads, AttentionFlag.mark]
@[simp] theorem State.enterHalt_valves (s : State) (c : HaltCause) : (s.enterHalt c).valves = s.valves := by simp only [State.enterHalt, State.promoteAll, State.raise, State.onHeads, AttentionFlag.mark]
@[simp] theorem State.enterHalt_nq (s : State) (c : HaltCause) : (s.enterHalt c).nq = s.nq := by simp only [State.enterHalt, State.promoteAll, State.raise, State.onHeads, AttentionFlag.mark]
@[simp] theorem State.enterHalt_supply (s : State) (c : HaltCause) : (s.enterHalt c).supply = s.supply := by simp only [State.enterHalt, State.promoteAll, State.raise, State.onHeads, AttentionFlag.mark]
@[simp] theorem State.enterHalt_report (s : State) (c : HaltCause) : (s.enterHalt c).report = { s.report with flags := s.report.flags ||| 0x100 } := by simp only [State.enterHalt, State.promoteAll, State.raise, State.onHeads, AttentionFlag.mark]
@[simp] theorem State.enterHalt_mode (s : State) (c : HaltCause) : (s.enterHalt c).mode = .halt := by simp only [State.enterHalt, State.promoteAll, State.raise, State.onHeads, AttentionFlag.mark]
@[simp] theorem State.enterHalt_haltCause (s : State) (c : HaltCause) : (s.enterHalt c).haltCause = c := by simp only [State.enterHalt, State.promoteAll, State.raise, State.onHeads, AttentionFlag.mark]
@[simp] theorem State.enterHalt_lineStop (s : State) (c : HaltCause) : (s.enterHalt c).lineStop = true := by simp only [State.enterHalt, State.promoteAll, State.raise, State.onHeads, AttentionFlag.mark]
@[simp] theorem State.enterHalt_ring (s : State) (c : HaltCause) : (s.enterHalt c).ring = s.ring := by simp only [State.enterHalt, State.promoteAll, State.raise, State.onHeads, AttentionFlag.mark]
@[simp] theorem State.enterHalt_store (s : State) (c : HaltCause) : (s.enterHalt c).store = s.store := by simp only [State.enterHalt, State.promoteAll, State.raise, State.onHeads, AttentionFlag.mark]
@[simp] theorem State.enterHalt_requestsInHand (s : State) (c : HaltCause) : (s.enterHalt c).requestsInHand = s.requestsInHand := by simp only [State.enterHalt, State.promoteAll, State.raise, State.onHeads, AttentionFlag.mark]
@[simp] theorem State.enterHalt_ticketsInHand (s : State) (c : HaltCause) : (s.enterHalt c).ticketsInHand = s.ticketsInHand := by simp only [State.enterHalt, State.promoteAll, State.raise, State.onHeads, AttentionFlag.mark]
@[simp] theorem State.enterHalt_pending (s : State) (c : HaltCause) : (s.enterHalt c).pending = s.pending := by simp only [State.enterHalt, State.promoteAll, State.raise, State.onHeads, AttentionFlag.mark]

/-! ## Reading back a head and a slot -/

/-- A head read back is the head put. -/
@[simp] theorem State.setHead_head (s : State) (h : HeadNo) (hd : Head) : (s.setHead h hd).head h = hd := by
  simp [State.setHead, State.head]

/-- Putting one head leaves every other. -/
@[simp] theorem State.setHead_head_ne (s : State) {h k : HeadNo} (hd : Head) (n : k ≠ h) :
    (s.setHead h hd).head k = s.head k := by
  have : ¬ (h : Nat) = k := fun e => n (Fin.ext e.symm)
  simp [State.setHead, State.head, this]

/-- Putting back the head that stands there changes nothing. -/
@[simp] theorem State.setHead_self (s : State) (h : HeadNo) : s.setHead h (s.head h) = s := by
  simp [State.setHead, State.head]

/-- The last of two puts to one head stands. -/
@[simp] theorem State.setHead_setHead (s : State) (h : HeadNo) (a b : Head) :
    (s.setHead h a).setHead h b = s.setHead h b := by
  simp [State.setHead]

/-- Changing a head is putting the changed one. -/
theorem State.onHead_eq (s : State) (h : HeadNo) (f : Head → Head) : s.onHead h f = s.setHead h (f (s.head h)) := rfl

@[simp] theorem State.onHead_head (s : State) (h : HeadNo) (f : Head → Head) :
    (s.onHead h f).head h = f (s.head h) := by
  rw [State.onHead_eq, State.setHead_head]

@[simp] theorem State.onHead_head_ne (s : State) {h k : HeadNo} (f : Head → Head) (n : k ≠ h) :
    (s.onHead h f).head k = s.head k := by
  rw [State.onHead_eq, State.setHead_head_ne s _ n]

@[simp] theorem State.onHeads_head (s : State) (f : HeadNo → Head → Head) (h : HeadNo) :
    (s.onHeads f).head h = f h (s.head h) := by
  simp [State.onHeads, State.head]

/-- A slot read back is the slot put. -/
@[simp] theorem State.setSlot_slot (s : State) (p : SlotNo) (sl : Slot) : (s.setSlot p sl).slot p = sl := by
  simp [State.setSlot, State.slot]

/-- Putting one slot leaves every other. -/
@[simp] theorem State.setSlot_slot_ne (s : State) {p q : SlotNo} (sl : Slot) (n : q ≠ p) :
    (s.setSlot p sl).slot q = s.slot q := by
  have : ¬ (p : Nat) = q := fun e => n (Fin.ext e.symm)
  simp [State.setSlot, State.slot, this]

@[simp] theorem State.promoteAll_slot (s : State) (p : SlotNo) : s.promoteAll.slot p = (s.slot p).promote := by
  simp [State.promoteAll, State.slot]

@[simp] theorem State.enterStandby_slot (s : State) (p : SlotNo) : s.enterStandby.slot p = (s.slot p).promote := by
  simp [State.enterStandby, State.promoteAll, State.slot]

@[simp] theorem State.enterHalt_slot (s : State) (c : HaltCause) (p : SlotNo) :
    (s.enterHalt c).slot p = (s.slot p).promote := by
  simp [State.enterHalt, State.promoteAll, State.slot, State.raise, State.onHeads]

@[simp] theorem State.enterHalt_head (s : State) (c : HaltCause) (h : HeadNo) :
    (s.enterHalt c).head h = (s.head h).sendHalt := by
  simp [State.enterHalt, State.promoteAll, State.head, State.raise, State.onHeads]

/-- Two states are equal when their heads are and the rest is. -/
theorem State.ext_heads {s t : State} (heads : ∀ h : HeadNo, s.head h = t.head h)
    (rest : { s with heads := t.heads } = t) : s = t := by
  have : s.heads = t.heads := Vector.ext fun i hi => heads ⟨i, hi⟩
  rw [← rest, ← this]

/-- No head holds a context, head by head. -/
theorem State.noContext_iff (s : State) : s.noContext = true ↔ ∀ h : HeadNo, (s.head h).ctx = none := by
  simp only [State.noContext, List.all_eq_true, Vector.mem_toList_iff, Option.isNone_iff_eq_none, State.head]
  constructor
  · intro all h
    exact all _ (Vector.getElem_mem h.isLt)
  · rintro all hd mem
    obtain ⟨i, hi, rfl⟩ := Vector.getElem_of_mem mem
    exact all ⟨i, hi⟩

end Sys2Proof.Machine
end

