-- ==== Sys2Proof/Laws/Modes.lean ====
section
/-! SUPPORT. What mode control and the recipe table's promotion can do, said once each. -/

namespace Sys2Proof.Machine

/-- Promotion completes a COMPLETE entry, makes a removal, and leaves every other slot (R47). -/
theorem Slot.promote_cases (sl : Slot) :
    (∃ g c, sl.pending = .complete g c ∧ sl.promote = ⟨some ⟨g, c⟩, .none, (sl.version + 1) % 256⟩)
    ∨ (sl.pending = .removal ∧ sl.promote = ⟨none, .none, (sl.version + 1) % 256⟩)
    ∨ (sl.waits = false ∧ sl.promote = sl) := by
  cases p : sl.pending <;> simp [Slot.promote, Slot.waits, p]

/-- A promoted slot no longer waits (R47). -/
@[simp] theorem Slot.promote_waits (sl : Slot) : sl.promote.waits = false := by
  rcases sl.promote_cases with ⟨g, c, -, h⟩ | ⟨-, h⟩ | ⟨w, h⟩
  · rw [h]; rfl
  · rw [h]; rfl
  · rw [h, w]

/-- The drain check leaves the part, or passes from an empty DRAIN to STANDBY (R149). -/
theorem State.drainCheck_cases (s : State) :
    s.drainCheck = s ∨ (s.mode = .drain ∧ (∀ h : HeadNo, (s.head h).ctx = none) ∧ s.drainCheck = s.enterStandby) := by
  unfold State.drainCheck
  split
  · rename_i h
    exact .inr ⟨h.1, s.noContext_iff.1 h.2, rfl⟩
  · exact .inl rfl

/-- A HALT leaves the part, or enters HALT from RUN or DRAIN (R147). -/
theorem State.takeHalt_cases (s : State) (cause : HaltCause) :
    (s.takeHalt cause = s ∧ (s.mode = .standby ∨ s.mode = .halt))
    ∨ (s.takeHalt cause = s.enterHalt cause ∧ (s.mode = .run ∨ s.mode = .drain)) := by
  unfold State.takeHalt
  split
  · rename_i h
    exact .inr ⟨rfl, h⟩
  · rename_i h
    refine .inl ⟨rfl, ?_⟩
    cases m : s.mode <;> simp_all

/-- A MODE request leaves the part, or makes one of the four entries, each from the modes that allow it (R145). -/
theorem State.takeMode_cases (s : State) (target : ModeTarget) :
    (s.takeMode target).1 = s
    ∨ ((s.takeMode target).1 = s.enterRun ∧ (s.mode = .standby ∨ s.mode = .halt))
    ∨ ((s.takeMode target).1 = s.enterDrain ∧ (s.mode = .run ∨ s.mode = .halt))
    ∨ ((s.takeMode target).1 = s.enterHalt .requested ∧ (s.mode = .run ∨ s.mode = .drain))
    ∨ ((s.takeMode target).1 = s.enterStandby ∧ s.mode = .halt ∧ ∀ h : HeadNo, (s.head h).ctx = none) := by
  cases m : s.mode <;> cases target <;> simp only [State.takeMode, m] <;>
    first
    | exact .inl trivial
    | exact .inr (.inl ⟨trivial, by simp⟩)
    | exact .inr (.inr (.inl ⟨trivial, by simp⟩))
    | exact .inr (.inr (.inr (.inl ⟨trivial, by simp⟩)))
    | skip
  split
  · rename_i h
    exact .inr (.inr (.inr (.inr ⟨rfl, trivial, s.noContext_iff.1 h⟩)))
  · exact .inl rfl

/-- The entry to STANDBY touches the mode, the line stop and the recipe table. -/
theorem State.enterStandby_frame (s : State) :
    ∃ r, s.enterStandby = { s with mode := .standby, haltCause := .none, lineStop := false, recipes := r } :=
  ⟨_, rfl⟩

/-- The drain check touches the mode, the line stop and the recipe table. -/
theorem State.drainCheck_frame (s : State) :
    ∃ m c l r, s.drainCheck = { s with mode := m, haltCause := c, lineStop := l, recipes := r } := by
  rcases s.drainCheck_cases with h | ⟨-, -, h⟩
  · exact ⟨s.mode, s.haltCause, s.lineStop, s.recipes, h⟩
  · obtain ⟨r, e⟩ := s.enterStandby_frame
    exact ⟨_, _, _, r, h.trans e⟩

/-- The entry to HALT touches the mode, the line stop, the recipe table, the flags and the messages in flight. -/
theorem State.enterHalt_frame (s : State) (cause : HaltCause) :
    ∃ r hs p, s.enterHalt cause = { s with
      mode := .halt, haltCause := cause, lineStop := true, recipes := r, heads := hs, report := p } := by
  refine ⟨(s.enterHalt cause).recipes, (s.enterHalt cause).heads, (s.enterHalt cause).report, ?_⟩
  simp only [State.enterHalt, State.promoteAll, State.onHeads, State.raise]

end Sys2Proof.Machine
end

