-- ==== Sys2Proof/Laws/Reasons.lean ====
section
/-! SUPPORT. The reason set: what adding a reason does to membership and order (R128). -/

namespace Sys2Proof.Machine

/-- Reason codes tell the reasons apart. -/
theorem Reason.code_injective {a b : Reason} (h : a.code = b.code) : a = b := by
  cases a <;> cases b <;> first | rfl | (simp [Reason.code] at h)

/-- Adding a reason adds that one and no other. -/
@[simp] theorem mem_addReason (r x : Reason) (rs : List Reason) : x ∈ addReason r rs ↔ x = r ∨ x ∈ rs := by
  induction rs with
  | nil => simp [addReason]
  | cons y ys ih =>
    simp only [addReason]
    split
    · simp
    · split
      · rename_i e
        subst e
        simp
      · simp only [List.mem_cons, ih]
        tauto

@[simp] theorem mem_addReasonIf (p : Bool) (r x : Reason) (rs : List Reason) :
    x ∈ addReasonIf p r rs ↔ (p = true ∧ x = r) ∨ x ∈ rs := by
  cases p <;> simp [addReasonIf]

/-- Adding a reason keeps the rising code order. -/
theorem pairwise_addReason (r : Reason) (rs : List Reason) (h : rs.Pairwise fun a b => a.code < b.code) :
    (addReason r rs).Pairwise fun a b => a.code < b.code := by
  induction rs with
  | nil => simp [addReason]
  | cons y ys ih =>
    rw [List.pairwise_cons] at h
    simp only [addReason]
    split
    · rename_i lt
      refine List.pairwise_cons.mpr ⟨fun b mem => ?_, List.pairwise_cons.mpr h⟩
      rcases List.mem_cons.mp mem with rfl | mem
      · exact lt
      · exact lt.trans (h.1 b mem)
    · split
      · exact List.pairwise_cons.mpr h
      · rename_i ge ne
        refine List.pairwise_cons.mpr ⟨fun b mem => ?_, ih h.2⟩
        rcases (mem_addReason r b ys).mp mem with rfl | mem
        · have : y.code ≠ b.code := fun e => ne (Reason.code_injective e).symm
          omega
        · exact h.1 b mem

theorem pairwise_addReasonIf (p : Bool) (r : Reason) (rs : List Reason) (h : rs.Pairwise fun a b => a.code < b.code) :
    (addReasonIf p r rs).Pairwise fun a b => a.code < b.code := by
  cases p
  · exact h
  · exact pairwise_addReason r rs h

end Sys2Proof.Machine
end

