-- ==== Sys2Proof/Laws/Ring.lean ====
section
/-! SUPPORT. What the ring operations can do: each changes the ring port and, where a frame is lost, the counters and flags,
and nothing else; and each keeps the bounds of the queues. -/

namespace Sys2Proof.Machine

/-- The arbiter leaves a busy transmitter, and an idle one with nothing waiting; else it starts the oldest frame of the
queue it chooses (R159). -/
theorem State.arbitrate_cases (s : State) :
    (s.arbitrate = s ∧ (s.ring.transmitter.isSome = true ∨ (s.ring.relay = [] ∧ s.ring.origin = [])))
    ∨ (∃ f fs, s.ring.transmitter = none ∧ s.ring.relay = f :: fs ∧ s.arbitrate = s.sendRelay f fs)
    ∨ ∃ g gs, s.ring.transmitter = none ∧ s.ring.origin = g :: gs ∧ s.arbitrate = s.sendOrigin g gs := by
  unfold State.arbitrate
  split
  · rename_i busy
    exact .inl ⟨rfl, .inl busy⟩
  · rename_i idle
    have idle : s.ring.transmitter = none := by simpa using idle
    split
    · rename_i r o
      exact .inl ⟨rfl, .inr ⟨r, o⟩⟩
    · rename_i f fs r o
      exact .inr (.inl ⟨f, fs, idle, r, rfl⟩)
    · rename_i g gs r o
      exact .inr (.inr ⟨g, gs, idle, o, rfl⟩)
    · rename_i f fs g gs r o
      split
      · exact .inr (.inl ⟨f, fs, idle, r, rfl⟩)
      · exact .inr (.inr ⟨g, gs, idle, o, rfl⟩)

/-- The arbiter touches the ring port alone. -/
theorem State.arbitrate_frame (s : State) : ∃ r, s.arbitrate = { s with ring := r } := by
  rcases s.arbitrate_cases with ⟨h, -⟩ | ⟨f, fs, -, -, h⟩ | ⟨g, gs, -, -, h⟩
  · exact ⟨s.ring, h⟩
  · exact ⟨_, h⟩
  · exact ⟨_, h⟩

/-- An offer of a relay frame touches the ring port and the report unit alone. -/
theorem State.offerRelay_frame (s : State) (f : List Byte) : ∃ r p, s.offerRelay f = { s with ring := r, report := p } := by
  unfold State.offerRelay
  split
  · obtain ⟨r, h⟩ := State.arbitrate_frame { s with ring := { s.ring with relay := s.ring.relay ++ [f] } }
    exact ⟨r, s.report, h⟩
  · exact ⟨s.ring, _, rfl⟩

theorem State.enterOrigin_frame (s : State) (f : OriginFrame) (q : List OriginFrame) :
    ∃ r, s.enterOrigin f q = { s with ring := r } := by
  obtain ⟨r, h⟩ := State.arbitrate_frame { s with ring := { s.ring with origin := q ++ [f] } }
  exact ⟨r, h⟩

/-- An offer of a reply touches the ring port and the report unit alone. -/
theorem State.offerReply_frame (s : State) (x : Reply) : ∃ r p, s.offerReply x = { s with ring := r, report := p } := by
  unfold State.offerReply
  split
  · obtain ⟨r, h⟩ := s.enterOrigin_frame (.reply x) s.ring.origin
    exact ⟨r, s.report, h⟩
  · exact ⟨s.ring, _, rfl⟩

/-- An offer of a ticket touches the ring port and the report unit alone. -/
theorem State.offerTicket_frame (s : State) (t : DischargeTicket) :
    ∃ r p, s.offerTicket t = { s with ring := r, report := p } := by
  unfold State.offerTicket
  split
  · obtain ⟨r, h⟩ := s.enterOrigin_frame (.ticket t) s.ring.origin
    exact ⟨r, s.report, h⟩
  · split
    · obtain ⟨r, h⟩ := s.loseReply.enterOrigin_frame (.ticket t) (s.ring.origin.eraseP OriginFrame.isReply)
      exact ⟨r, s.loseReply.report, h⟩
    · exact ⟨s.ring, _, rfl⟩

/-- A request's answer touches the ring port and the report unit alone. -/
theorem State.answering_frame (s : State) (kind tag : Byte) (r : Result) (data : List Byte) :
    ∃ g p, s.answering kind tag r data = { s with ring := g, report := p } :=
  s.offerReply_frame _

end Sys2Proof.Machine
end

