-- ==== Sys2Proof/Laws/Heads.lean ====
section
/-! SUPPORT. What the events of a head can do, said once each, and what a crossing leaves alone. -/

namespace Sys2Proof.Machine

/-- An end cause acts in GASSING alone (R77). -/
theorem Head.endGassing_cases (cause : GasEndCause) (now : Nat) (hd : Head) :
    hd.endGassing cause now = hd
    ∨ ∃ c, hd.state = .gassing ∧ hd.ctx = some c ∧ hd.endGassing cause now = hd.stopGas cause (c.gasElapsed now) c := by
  unfold Head.endGassing
  split
  · rename_i c st cx
    exact .inr ⟨c, st, cx, rfl⟩
  · exact .inl rfl

/-- The command timer acts in GASSING alone (R78). -/
theorem Head.onCommandExpiry_cases (hd : Head) :
    hd.onCommandExpiry = hd
    ∨ ∃ c elapsed, hd.state = .gassing ∧ hd.ctx = some c ∧ hd.onCommandExpiry = hd.stopGas .dosed elapsed c := by
  unfold Head.onCommandExpiry
  split
  · rename_i c _ st cx _
    exact .inr ⟨c, _, st, cx, rfl⟩
  · exact .inl rfl

/-- The seal-check timer's expiry leaves the head, ends its gassing, or only runs out (R80). -/
theorem Head.onSealExpiry_cases (now : Nat) (hd : Head) :
    hd.onSealExpiry now = hd ∨ hd.onSealExpiry now = hd.endGassing .noSeal now
    ∨ (hd.state = .gassing ∧ hd.onSealExpiry now = { hd with sealTimer := none }) := by
  unfold Head.onSealExpiry
  split
  · rename_i st _
    split
    · exact .inr (.inr ⟨st, rfl⟩)
    · exact .inr (.inl rfl)
  · exact .inl rfl

/-- The crimp angle acts in SETTLING alone (R85). -/
theorem Head.onCrimp_cases (now nq : Nat) (hd : Head) :
    hd.onCrimp now nq = hd
    ∨ ∃ c rs, hd.state = .settling ∧ hd.ctx = some c ∧ (rs = c.reasons ∨ rs = addReason .settleRange c.reasons)
      ∧ hd.onCrimp now nq = { hd.beginQualification c.cam.force nq with
          ctx := some { c with settle := some hd.reading, reasons := rs }
          collet := true, dwellTimer := some (now + c.cam.dwell * 1000), state := .crimping } := by
  unfold Head.onCrimp
  split
  · rename_i c st cx
    refine .inr ⟨c, _, st, cx, ?_, rfl⟩
    unfold addReasonIf
    split
    · exact .inr rfl
    · exact .inl rfl
  · exact .inl rfl

/-- A vent begins pulsing or held on (R88). -/
theorem Head.beginVent_cases (now : Nat) (c : Context) (hd : Head) :
    hd.beginVent now c = hd.holdVent c
    ∨ hd.beginVent now c = { hd with
        state := .venting, ctx := some c, ventValve := true, ventMode := .pulsing c.cam.pulses true
        ventTimer := some (now + c.cam.ventOn * 1000) } := by
  unfold Head.beginVent
  split
  · exact .inl rfl
  · exact .inr rfl

/-- The vent angle acts in CRIMPED and in CRIMPING alone (R87, R88). -/
theorem Head.onVent_cases (now : Nat) (gauge : Gauge) (hd : Head) :
    hd.onVent now gauge = hd
    ∨ (∃ c, hd.state = .crimped ∧ hd.ctx = some c ∧ hd.onVent now gauge = hd.beginVent now c)
    ∨ ∃ c d, hd.state = .crimping ∧ hd.ctx = some c
      ∧ d = { c with crimp := some (hd.crimpResult gauge), reasons := addReason .crimpShort c.reasons }
      ∧ (hd.onVent now gauge = hd.releaseCollet.holdVent d ∨ hd.onVent now gauge = hd.releaseCollet.beginVent now d) := by
  unfold Head.onVent
  split
  · rename_i c st cx
    exact .inr (.inl ⟨c, st, cx, rfl⟩)
  · rename_i c st cx
    refine .inr (.inr ⟨c, _, st, cx, rfl, ?_⟩)
    dsimp only
    split
    · exact .inl rfl
    · exact .inr rfl
  · exact .inl rfl

/-- HALT leaves an IDLE or LIFTED head, holds a crimp, ends a gassing held on, or holds the vent on (R92). -/
theorem Head.onHalt_cases (now : Nat) (hd : Head) :
    hd.onHalt now = hd
    ∨ (∃ c, hd.ctx = some c ∧ hd.state ∈ [HeadState.bound, .sealed, .settling, .crimped, .venting]
        ∧ hd.onHalt now = hd.holdVent c.abort)
    ∨ (∃ c, hd.ctx = some c ∧ hd.state = .gassing
        ∧ hd.onHalt now = (hd.stopGas .aborted (c.gasElapsed now) c).holdVent (c.endGassing .aborted (c.gasElapsed now)))
    ∨ ∃ c, hd.ctx = some c ∧ hd.state = .crimping
        ∧ hd.onHalt now = { hd with ctx := some c.abort, haltHold := true } := by
  unfold Head.onHalt
  split
  case h_6 c st cx => exact .inr (.inr (.inl ⟨c, cx, st, rfl⟩))
  case h_7 c st cx => exact .inr (.inr (.inr ⟨c, cx, st, rfl⟩))
  case h_8 => exact .inl rfl
  all_goals
    rename_i c st cx
    exact .inr (.inl ⟨c, cx, by simp [st], rfl⟩)

/-- A gas start touches its own head alone. -/
theorem gasStartEvent_frame (h : HeadNo) (s : State) : ∃ hd, gasStartEvent h s = s.setHead h hd := by
  unfold gasStartEvent
  split
  · split
    · exact ⟨_, rfl⟩
    · split
      · exact ⟨_, rfl⟩
      · exact ⟨_, rfl⟩
  · exact ⟨s.head h, s.setHead_self h |>.symm⟩

/-- Every phase event but discharge touches its own head alone. -/
theorem takePhase_frame (h : HeadNo) (gauge : Gauge) (e : PhaseEvent) (s : State) (n : e ≠ .discharge) :
    ∃ hd, takePhase h gauge e s = s.setHead h hd := by
  cases e
  case gasStart => exact gasStartEvent_frame h s
  case discharge => exact absurd rfl n
  all_goals exact ⟨_, rfl⟩

/-- A property that every event of a crossing keeps is kept by the whole crossing, whatever the order (R11). -/
theorem deliverAll_keeps {P : State → Prop} {lines : Lines} (order : List Arrival) {s : State}
    (keeps : ∀ a t, P t → P (deliver lines t a)) (start : P s) : P (deliverAll lines order s) := by
  unfold deliverAll
  generalize schedule order = as
  induction as generalizing s with
  | nil => exact start
  | cons a as ih => exact ih (keeps a s start)

/-- An event of a crossing does nothing, is the pitch mark, or is the phase event of a head (R10, R12). -/
theorem deliver_cases (lines : Lines) (s : State) (a : Arrival) :
    deliver lines s a = s
    ∨ (s.tracker.count % 256 = 0
        ∧ deliver lines s a = s.pitchMark (Fin.ofNat 24 (s.tracker.count / 256)) lines.sensorHigh)
    ∨ ∃ h e, a = .phase h ∧ s.phaseFor h = some e ∧ deliver lines s a = takePhase h lines.gauges[h] e s := by
  cases a with
  | pitchMark =>
    simp only [deliver]
    split
    · rename_i c
      exact .inr (.inl ⟨c, rfl⟩)
    · exact .inl rfl
  | phase h =>
    simp only [deliver]
    split
    · rename_i e p
      exact .inr (.inr ⟨h, e, rfl, p, rfl⟩)
    · exact .inl rfl

/-- The accounting of a fault run touches the head and the report unit (R137, R138). -/
theorem State.accountRun_frame (h : HeadNo) (faulty : Bool) (s : State) :
    ∃ hs p, s.accountRun h faulty = { s with heads := hs, report := p } := by
  unfold State.accountRun
  dsimp only
  split
  · exact ⟨_, _, rfl⟩
  · split
    · split
      · exact ⟨_, _, rfl⟩
      · exact ⟨_, s.report, rfl⟩
    · exact ⟨_, s.report, rfl⟩

/-- The discharge of a can touches its head, the report unit, the ring port and, through the drain check, the mode, the line
stop and the recipe table. -/
theorem dischargeEvent_frame (h : HeadNo) (s : State) :
    ∃ hs p r m c l rs, dischargeEvent h s = { s with
      heads := hs, report := p, ring := r, mode := m, haltCause := c, lineStop := l, recipes := rs } := by
  unfold dischargeEvent
  split
  · rename_i c _ _
    obtain ⟨m, k, l, rs, e⟩ := State.drainCheck_frame ((s.reportCan h c).onHead h Head.dropContext)
    have report : ∃ hs p r, s.reportCan h c = { s with heads := hs, report := p, ring := r } := by
      unfold State.reportCan
      obtain ⟨r, p, e⟩ := State.offerTicket_frame
        ((s.faultAccounting h c.reasons).countDischarged (c.ticket h (s.faultAccounting h c.reasons).summary))
        (c.ticket h (s.faultAccounting h c.reasons).summary)
      have acc : ∃ hs p, s.faultAccounting h c.reasons = { s with heads := hs, report := p } := by
        unfold State.faultAccounting
        dsimp only
        split
        · obtain ⟨hs, p, e⟩ := State.accountRun_frame h true (s.bumpHead h HeadCounters.bumpFaults)
          refine ⟨hs, p, ?_⟩
          rename_i f
          rw [f, e]
          rfl
        · obtain ⟨hs, p, e⟩ := State.accountRun_frame h (faultyCycle c.reasons) s
          exact ⟨hs, p, e⟩
      obtain ⟨hs, q, a⟩ := acc
      refine ⟨hs, p, r, ?_⟩
      dsimp only
      rw [e, a]
      rfl
    obtain ⟨hs, p, r, q⟩ := report
    have frame : (s.reportCan h c).onHead h Head.dropContext
        = { s with heads := ((s.reportCan h c).onHead h Head.dropContext).heads, report := p, ring := r } := by
      rw [q]
      rfl
    refine ⟨((s.reportCan h c).onHead h Head.dropContext).heads, p, r, m, k, l, rs, e.trans ?_⟩
    rw [frame]
  · exact ⟨s.heads, s.report, s.ring, s.mode, s.haltCause, s.lineStop, s.recipes, rfl⟩

/-- A ticket emitted at once touches the report unit and the ring port. -/
theorem State.emitAtOnce_frame (s : State) (t : Ticket) (h : HeadNo) (reason : Option Reason) :
    ∃ p r, s.emitAtOnce t h reason = { s with report := p, ring := r } := by
  unfold State.emitAtOnce
  obtain ⟨r, p, e⟩ := State.offerTicket_frame (s.countEmitted (emittedTicket t h reason s.summary))
    (emittedTicket t h reason s.summary)
  refine ⟨p, r, e.trans ?_⟩
  cases reason <;> rfl

/-- The pitch mark at the infeed touches the infeed unit, its own head, the report unit and the ring port. -/
theorem State.infeedPitch_frame (s : State) (h : HeadNo) (high : Bool) :
    ∃ u hd p r, s.infeedPitch h high = { s.setHead h hd with infeed := u, report := p, ring := r } := by
  have same : ∀ u p r, ∃ u' hd p' r', ({ s with infeed := u, report := p, ring := r } : State)
      = { s.setHead h hd with infeed := u', report := p', ring := r' } := fun u p r =>
    ⟨u, s.head h, p, r, by rw [State.setHead_self]⟩
  have emitted : ∀ (u : Infeed) (t : Ticket) (x : Option Reason), ∃ u' hd p r,
      State.emitAtOnce t h x { s with infeed := u } = { s.setHead h hd with infeed := u', report := p, ring := r } := by
    intro u t x
    obtain ⟨p, r, e⟩ := State.emitAtOnce_frame { s with infeed := u } t h x
    rw [e]
    exact same u p r
  unfold State.infeedPitch
  dsimp only
  split
  · split
    · split
      · split
        · unfold State.dealTicket
          split
          · split
            · exact emitted _ _ _
            · exact ⟨_, _, s.report, s.ring, rfl⟩
          · exact emitted _ _ _
        · exact emitted _ _ _
      · exact emitted _ _ _
    · split
      · split
        · unfold State.untrackedCan
          dsimp only
          split
          · split
            · exact same _ _ _
            · split
              · exact same _ _ _
              · exact ⟨_, _, _, s.ring, rfl⟩
          · exact same _ _ _
        · exact same _ _ _
      · exact same _ s.report s.ring
  · exact same _ _ _

end Sys2Proof.Machine
end

