-- ==== Sys2Proof/Laws/Requests.lean ====
section
/-! SUPPORT. The shared taking of a request, said once (R156, R162), and the arguments that name a slot or a head. -/

namespace Sys2Proof.Machine

/-- It is a thing's turn exactly when nothing else stands before it in hand. -/
theorem inTurn_iff {α : Type} [DecidableEq α] (x : α) (hand : List α) :
    inTurn x hand = true ↔ ∀ y ∈ hand.head?, y = x := by
  cases hand <;> simp [inTurn]

/-- A part with an own address takes the request whole and answers it, if no other stands before it in hand. -/
theorem takeRequest_admitted {s : State} {tag : Byte} {r : Request} (admits : s.Admits tag r) (dt : Nat)
    (deal : State → Dealt) :
    takeRequest dt tag r deal s
      = (deal (s.taking dt)).state.answering (requestKind r) tag (deal (s.taking dt)).result
          (deal (s.taking dt)).data :=
  if_pos ⟨admits.1, (inTurn_iff _ _).2 admits.2⟩

/-- A request is not taken while one that arrived before it is in hand. -/
theorem takeRequest_outOfTurn {s : State} {tag : Byte} {r : Request} {x : Byte × Request}
    (first : s.requestsInHand.head? = some x) (other : x ≠ (tag, r)) (dt : Nat) (deal : State → Dealt) :
    takeRequest dt tag r deal s = s.waiting dt :=
  if_neg fun h => other ((inTurn_iff _ _).1 h.2 x first)

/-- A part without an own address takes no request. -/
theorem takeRequest_noOwn {s : State} (own : s.ring.own = none) (dt : Nat) (tag : Byte) (r : Request)
    (deal : State → Dealt) : takeRequest dt tag r deal s = s.waiting dt := by
  simp [takeRequest, own]
  rfl

@[simp] theorem slotNo_val (p : SlotNo) : slotNo p.val = some p := by
  simp [slotNo]

theorem slotNo_none {n : Nat} (h : 15 < n) : slotNo n = none := by
  simp [slotNo]
  omega

@[simp] theorem headNo_val (h : HeadNo) : headNo h.val = some h := by
  simp [headNo]

theorem headNo_none {n : Nat} (h : 23 < n) : headNo n = none := by
  simp [headNo]
  omega

/-- Taking a request changes the clock and what is in hand, and nothing else. -/
@[simp] theorem State.taking_head (s : State) (dt : Nat) (h : HeadNo) :
    (s.taking dt).head h = s.head h := rfl
@[simp] theorem State.taking_slot (s : State) (dt : Nat) (p : SlotNo) :
    (s.taking dt).slot p = s.slot p := rfl
@[simp] theorem State.taking_mode (s : State) (dt : Nat) :
    (s.taking dt).mode = s.mode := rfl
@[simp] theorem State.taking_ring (s : State) (dt : Nat) :
    (s.taking dt).ring = s.ring := rfl
@[simp] theorem State.taking_report (s : State) (dt : Nat) :
    (s.taking dt).report = s.report := rfl
@[simp] theorem State.taking_store (s : State) (dt : Nat) :
    (s.taking dt).store = s.store := rfl
@[simp] theorem State.taking_tracker (s : State) (dt : Nat) :
    (s.taking dt).tracker = s.tracker := rfl
@[simp] theorem State.taking_noContext (s : State) (dt : Nat) :
    (s.taking dt).noContext = s.noContext := rfl
@[simp] theorem State.taking_recipes (s : State) (dt : Nat) :
    (s.taking dt).recipes = s.recipes := rfl
@[simp] theorem State.taking_now (s : State) (dt : Nat) :
    (s.taking dt).now = s.now + dt := rfl

end Sys2Proof.Machine
end

