-- ==== Sys2Proof/Laws/Units.lean ====
section
/-! SUPPORT. Small facts about the counters, the frame bytes, the measurement unit, the supply monitor and the store. -/

namespace Sys2Proof.Machine

/-- Raising a counter never lowers it (R134). -/
theorem le_bump (n : Nat) : n ≤ bump n := by
  unfold bump
  split <;> omega

/-- A counter in its range stays in it (R134). -/
theorem bump_le {n : Nat} (h : n ≤ Config.counterMax) : bump n ≤ Config.counterMax := by
  unfold bump
  split <;> omega

/-- A field of `k` bytes is `k` bytes long (R161). -/
@[simp] theorem bytesOf_length (k n : Nat) : (bytesOf k n).length = k := by
  induction k generalizing n with
  | zero => rfl
  | succ k ih => simp [bytesOf, ih]

/-- A sum brought into 0..top is at most top. -/
theorem clampTo_le (top : Nat) (i : Int) : clampTo top i ≤ top := by
  unfold clampTo
  omega

/-- Pm is at most 1500 kPa (R116). -/
theorem manifoldPressure_le (raw : Int) : manifoldPressure raw ≤ 1500 := by
  unfold manifoldPressure
  omega

/-- A reading leaves the context, or raises its peak (R102). -/
theorem Head.raisePeak_cases (hd : Head) :
    hd.raisePeak = hd
    ∨ hd.raisePeak = { hd with ctx := hd.ctx.map fun c => { c with peak := c.peak.map (max hd.reading) } } := by
  unfold Head.raisePeak
  split
  · exact .inr rfl
  · exact .inl rfl

/-- A reading leaves the comparator, or trips it and sends one trip (R104). -/
theorem Head.testComparator_cases (hd : Head) :
    hd.testComparator = hd
    ∨ hd.testComparator = { hd with comparator := none, inbox := { hd.inbox with trips := hd.inbox.trips + 1 } } := by
  unfold Head.testComparator
  split
  · split
    · exact .inr rfl
    · exact .inl rfl
  · exact .inl rfl

/-- A reading leaves the seal watch, or satisfies it and sends one report (R106). -/
theorem Head.testSealWatch_cases (hd : Head) :
    hd.testSealWatch = hd
    ∨ hd.testSealWatch
      = { hd with sealWatch := none, inbox := { hd.inbox with sealReports := hd.inbox.sealReports + 1 } } := by
  unfold Head.testSealWatch
  split
  · split
    · exact .inr rfl
    · exact .inl rfl
  · exact .inl rfl

/-- A force sample changes the run count and the qualified mark alone (R109). -/
theorem Head.forceSample_frame (newtons : Int) (hd : Head) :
    ∃ n q, hd.forceSample newtons = { hd with runCount := n, qualified := q } := by
  unfold Head.forceSample
  split
  · exact ⟨hd.runCount, hd.qualified, rfl⟩
  · split
    · exact ⟨hd.runCount, hd.qualified, rfl⟩
    · split
      · exact ⟨_, _, rfl⟩
      · exact ⟨0, hd.qualified, rfl⟩

/-- A judged sample changes the supply state and the dip timer alone (R117, R118, R120). -/
theorem Supply.judge_frame (now : Nat) (u : Supply) : ∃ st t, u.judge now = { u with state := st, dipTimer := t } := by
  unfold Supply.judge
  split <;> split
  · exact ⟨_, _, rfl⟩
  · exact ⟨u.state, u.dipTimer, rfl⟩
  · exact ⟨_, _, rfl⟩
  · exact ⟨u.state, u.dipTimer, rfl⟩
  · exact ⟨_, u.dipTimer, rfl⟩
  · exact ⟨u.state, u.dipTimer, rfl⟩

/-- A reset leaves no operation in flight and no timer running (R170). -/
@[simp] theorem Store.settle_op (st : Store) : st.settle.op = none ∧ st.settle.timer = none := by
  unfold Store.settle
  split <;> exact ⟨rfl, rfl⟩

/-- A completed operation is in flight no longer (R173). -/
@[simp] theorem Store.complete_op (st : Store) : st.complete.op = none := by
  unfold Store.complete
  split
  · rfl
  · rfl
  · assumption

end Sys2Proof.Machine
end

