-- ==== Sys2Proof/WellFormed.lean ====
section
/-! DEFINITION. Which commands the outside can send: the operands of a request fit the fields of its layout (R161). `exec`
gives every command an effect all the same; the range checks of the owning blocks are theirs, not these. -/

namespace Sys2Proof

/-- A number fits an unsigned field of `k` bytes. -/
def fits (k n : Nat) : Bool := decide (n < 256 ^ k)

/-- A number fits a signed field of `k` bytes, two's complement. -/
def fitsSigned (k : Nat) (i : Int) : Bool :=
  decide (-(2 ^ (8 * k - 1)) ≤ i) && decide (i < 2 ^ (8 * k - 1))

/-- A gas half fits its request layout. -/
def gasFits (g : GasHalf) : Bool :=
  [g.d0, g.dMin, g.dMax, g.dTol, g.f0, g.kh, g.sealLevel, g.settleMin, g.settleMax].all (fits 2)
    && fitsSigned 2 g.t0 && fitsSigned 2 g.kt && fits 3 g.tMax && fits 1 g.sealTime && fits 1 g.overStep

/-- A cam half fits its request layout. -/
def camFits (c : CamHalf) : Bool :=
  [c.sealAngle, c.gasStart, c.gasEnd, c.crimp, c.vent, c.lift, c.depthMin, c.depthMax, c.diameterMin, c.diameterMax,
      c.force].all (fits 2)
    && [c.dwell, c.pulses, c.ventPeriod, c.ventOn, c.ventClear].all (fits 1)

/-- The fields of a HEAD-WRITE fit their layout. -/
def headFieldsFit (f : HeadFields) : Bool :=
  fits 1 f.enabled && fits 1 f.valveClass && fitsSigned 2 f.bellOffset && fitsSigned 1 f.depthOffset
    && fitsSigned 1 f.diameterOffset

/-- A command that the outside can send. -/
def Instr.wellFormed : Instr → Bool
  | .reset _ _ | .forwardEdge _ _ _ | .reverseEdge _ | .indexMark _ _ _ _ | .pitchTimerSaturation _
  | .canPresentEdge _ | .bellPressureSample _ _ _ | .crimpForceSample _ _ _ | .manifoldSample _ _
  | .overpressureTrip _ _ | .sealLevelReport _ _ | .commandTimerExpiry _ _ | .sealCheckTimerExpiry _ _
  | .dwellTimerExpiry _ _ _ | .ventPulseTimerExpiry _ _ | .resetVentTimerExpiry _ _ | .dipTimerExpiry _
  | .lowEvent _ _ | .headHalt _ _ | .trackerHaltRequest _ _ | .storeOperationTimerExpiry _ | .ringInFrame _ _
  | .transmitComplete _ | .status _ _ | .modeRun _ _ | .modeDrain _ _ | .modeHalt _ _ | .modeResume _ _
  | .modeStandby _ _ | .protect _ _ _ | .latch _ _ _ | .attention _ _ _ _ | .restart _ _ => true
  | .infeedTicket _ _ payload | .unknownRequest _ _ ⟨payload, _⟩ => decide (payload.length ≤ 58)
  | .recipeGas _ _ product half => fits 1 product && gasFits half
  | .recipeCam _ _ product half => fits 1 product && camFits half
  | .recipeDrop _ _ product | .recipeClear _ _ product => fits 1 product
  | .recipeRead _ _ product source half => fits 1 product && fits 1 source && fits 1 half
  | .headWrite _ _ head _ fields => fits 1 head && headFieldsFit fields
  | .headRead _ _ head | .headStore _ _ head | .snapshot _ _ head => fits 1 head
  | .counters _ _ scope | .countersClear _ _ scope => fits 1 scope
  | .configWriteADis _ _ v => fits 2 v
  | .configWriteFaultLimit _ _ v | .configWriteNq _ _ v | .configWriteLevelPair _ _ v
  | .configWriteDipTolerance _ _ v => fits 1 v
  | .configWriteValveClassTable _ _ v => v.toList.all fun c => fits 2 c.lagOpen && fits 2 c.lagClose
  | .configWriteFlowTable _ _ v => v.toList.all fun b => fits 2 b.floor && fits 2 b.flow
  | .configRead _ _ group => fits 1 group

end Sys2Proof
end

