-- ==== Sys2Proof/Tests/Slice0.lean ====
section
/-! SUPPORT. Tests of single commands against the spec's own worked figures, the smoke tests of WellFormed, and a state and
operands that meet the hypotheses of each statement that has some. -/

/- One theorem after the other: side by side, their threads pass the memory limit of the joined text. -/
set_option Elab.async false

namespace Sys2Proof.Tests

open Sys2Proof Sys2Proof.Machine

/-! ## The worked case of chapter 4 and small states -/

/-- The gas half of the worked case (chapters 4 and 5). -/
def gas : GasHalf where
  d0 := 7000
  dMin := 6000
  dMax := 8000
  dTol := 150
  f0 := 2500
  kh := 27
  t0 := 40
  kt := 23
  tMax := 400000
  sealLevel := 150
  sealTime := 20
  overStep := 6
  settleMin := 250
  settleMax := 450

/-- The cam half of the worked case (chapters 4 and 5). -/
def cam : CamHalf where
  sealAngle := 64
  gasStart := 640
  gasEnd := 1024
  crimp := 1280
  vent := 2560
  lift := 5000
  dwell := 60
  depthMin := 480
  depthMax := 520
  diameterMin := 3300
  diameterMax := 3340
  force := 4200
  pulses := 4
  ventPeriod := 20
  ventOn := 8
  ventClear := 40

/-- What the gas start of the worked case records, the valve opened at the moment 0. -/
def started : GasStart := ⟨0, 170953, 526, 420, 6000, 3500⟩

/-- Can 1001 of the worked case, bound and not yet gassed. -/
def can : Context where
  serial := 1001
  product := 3
  fill := some 2462
  temp := some 52
  suspect := false
  gas := gas
  cam := cam
  version := 2
  dose := 7075
  flags := InfoFlags.clear
  reasons := []
  start := none
  finish := none
  peak := none
  settle := none
  crimp := none

/-- Can 1001 while it is gassed. -/
def gassed : Context := { can with start := some started, peak := some 0 }

/-- A head in a state with a context and nothing else running. -/
def headWith (st : HeadState) (c : Option Context) : Head :=
  { Head.afterReset HeadEntry.blank 0 with state := st, ctx := c, ventValve := false, resetVentTimer := none }

/-- A head in GASSING on can 1001. -/
def gassingHead : Head :=
  { headWith .gassing (some gassed) with
    clamp := true, gasValve := true, commandTimer := some 170953, sealTimer := some 20000
    comparator := some 600, sealWatch := some 150 }

/-- A head in CRIMPING on can 1001. -/
def crimpingHead : Head :=
  { headWith .crimping (some can) with
    clamp := true, collet := true, dwellTimer := some 60000, qualification := some ⟨4200, 4⟩, qualified := true }

/-- The part in a mode with one head of interest, head 4. -/
def withHead (mode : Mode) (hd : Head) : State := State.setHead 4 hd { State.reset with mode := mode }

/-- The part with its count set. -/
def atCount (n hold : Nat) (direction : Direction) (s : State) : State :=
  { s with tracker := { s.tracker with count := n, hold := hold, direction := direction } }

/-- The part with a live recipe in slot 3, its supply at 1120 kPa and P valid at 100,000 µs, as in the worked case. -/
def withRecipe (mode : Mode) (hd : Head) : State :=
  let s := State.setSlot 3 { live := some ⟨gas, cam⟩, pending := .none, version := 2 } (withHead mode hd)
  { s with
    supply := { s.supply with pm := 1120 }
    tracker := { s.tracker with pitch := 100000, pValid := true, marksSeen := 2 } }

/-- The machine lines as a crossing finds them. -/
def lines (high : Bool) : Lines := ⟨high, Vector.replicate 24 ⟨503, 3318⟩⟩

/-- A ticket for can 1001 as it waits. -/
def ticket : Ticket := ⟨1001, 3, some 2462, some 52, false⟩

/-- The payload of the infeed ticket of can 1001 (R161). -/
def ticketBytes : List Byte := [0x00, 0x03, 0xE9, 0x03, 0x09, 0x9E, 0x00, 0x34]

/-- The part with some tickets waiting. -/
def withQueue (q : List Ticket) (latch : Bool) (s : State) : State :=
  { s with infeed := { s.infeed with queue := q, latch := latch } }

/-- The part while a frame is being sent. -/
def sending (s : State) : State := { s with ring := { s.ring with transmitter := some [] } }

/-- A command answers a next state of which `p` holds. -/
def after (i : Instr) (s : State) (p : State → Bool) : Bool :=
  match exec i s with
  | .next t => p t
  | .fault _ => false
  | .refused _ => false

/-! ## WellFormed: a term that each check refuses -/

theorem test_fits_refuses_a_wide_value : fits 1 256 = false ∧ fits 1 255 = true := by decide
theorem test_fitsSigned_refuses_a_wide_value :
    fitsSigned 1 128 = false ∧ fitsSigned 1 (-128) = true ∧ fitsSigned 1 (-129) = false := by decide
theorem test_gasFits_refuses_an_unsigned_field : gasFits { gas with d0 := 65536 } = false := by decide
theorem test_gasFits_refuses_a_signed_field : gasFits { gas with t0 := 32768 } = false := by decide
theorem test_gasFits_refuses_a_long_field : gasFits { gas with tMax := 16777216 } = false := by decide
theorem test_camFits_refuses_an_angle : camFits { cam with lift := 65536 } = false := by decide
theorem test_camFits_refuses_a_byte : camFits { cam with dwell := 256 } = false := by decide
theorem test_headFieldsFit_refuses_an_offset :
    headFieldsFit ⟨1, 0, 0, 128, 0⟩ = false ∧ headFieldsFit ⟨1, 0, -32769, 0, 0⟩ = false := by decide
theorem test_wellFormed_refuses_a_long_payload :
    (Instr.infeedTicket 0 0 (List.replicate 59 0)).wellFormed = false
    ∧ (Instr.unknownRequest 0 0 ⟨List.replicate 59 0, 0⟩).wellFormed = false := by decide
theorem test_wellFormed_refuses_a_wide_product :
    (Instr.recipeGas 0 0 256 gas).wellFormed = false ∧ (Instr.recipeCam 0 0 256 cam).wellFormed = false
    ∧ (Instr.recipeDrop 0 0 256).wellFormed = false ∧ (Instr.recipeClear 0 0 256).wellFormed = false
    ∧ (Instr.recipeRead 0 0 0 256 0).wellFormed = false := by decide
theorem test_wellFormed_refuses_a_wide_head :
    (Instr.headWrite 0 0 256 false ⟨1, 0, 0, 0, 0⟩).wellFormed = false ∧ (Instr.headRead 0 0 256).wellFormed = false
    ∧ (Instr.headStore 0 0 256).wellFormed = false ∧ (Instr.snapshot 0 0 256).wellFormed = false := by decide
theorem test_wellFormed_refuses_a_wide_scope :
    (Instr.counters 0 0 256).wellFormed = false ∧ (Instr.countersClear 0 0 256).wellFormed = false
    ∧ (Instr.configRead 0 0 256).wellFormed = false := by decide
theorem test_wellFormed_refuses_a_wide_group_value :
    (Instr.configWriteADis 0 0 65536).wellFormed = false ∧ (Instr.configWriteFaultLimit 0 0 256).wellFormed = false
    ∧ (Instr.configWriteNq 0 0 256).wellFormed = false ∧ (Instr.configWriteLevelPair 0 0 256).wellFormed = false
    ∧ (Instr.configWriteDipTolerance 0 0 256).wellFormed = false := by decide
theorem test_wellFormed_refuses_a_wide_table_value :
    (Instr.configWriteValveClassTable 0 0 (Vector.replicate 4 ⟨65536, 0⟩)).wellFormed = false
    ∧ (Instr.configWriteFlowTable 0 0 (Vector.replicate 8 ⟨0, 65536⟩)).wellFormed = false := by decide

/-! ## The worked case of chapter 4, its examples and the cyclic check -/

/-- Section 4.2's table of examples: D by fill, temperature and suspect flag. -/
theorem test_stage_one_examples :
    committedDose gas (some 2462) (some 52) false = 7075 ∧ committedDose gas (some 2500) (some 40) false = 7000
    ∧ committedDose gas (some 2900) (some 120) false = 6000 ∧ committedDose gas (some 1900) (some (-60)) false = 8000
    ∧ committedDose gas (some 2300) (some 40) true = 7000 ∧ committedDose gas (some 2400) none false = 7270
    ∧ committedDose gas none none false = 7000 := by decide

theorem test_dose_clamped_examples :
    doseClamped gas (some 2462) (some 52) false = false ∧ doseClamped gas (some 2900) (some 120) false = true
    ∧ doseClamped gas (some 1900) (some (-60)) false = true ∧ doseClamped gas none none false = false := by decide

/-- The halves of section 4.2: 2.5 goes to 3, −2.5 to −3, −1.5 to −2. -/
theorem test_round_halves : roundDiv 25 10 = 3 ∧ roundDiv (-25) 10 = -3 ∧ roundDiv (-15) 10 = -2 := by decide

/-- The worked case at gas start: Q 420, t_cmd 170,953 µs, advisory 526, and the window check at two line speeds. -/
theorem test_gas_start_figures :
    flowAt Config.flowDefaults 1120 = 420 ∧ gasStartFigures 0 7075 400000 cam 420 ⟨6000, 3500⟩ = started
    ∧ windowShort cam 120000 true 170953 = false ∧ windowShort cam 100000 true 170953 = true := by decide

/-- The dip of chapter 7: Pm 780 gives Q 300, and D 7000 then t_cmd 235,834 µs and advisory 381. -/
theorem test_gas_start_figures_in_a_dip :
    flowAt Config.flowDefaults 780 = 300 ∧ commandTime 7000 300 6000 3500 400000 = 235834
    ∧ advisory cam 235834 = 381 := by decide

/-- The gas-end cut at 150,000 µs delivers 6195 mg, below 7075 − 150. -/
theorem test_delivered_estimate :
    deliveredEstimate started 150000 = 6195 ∧ isUnderdose 7075 150 6195 = true := by decide

/-- The check value of the cyclic check with this generator and start: 0x29B1 for the digits 1 to 9 (a published value). -/
theorem test_crc_check_value :
    crc [0x31, 0x32, 0x33, 0x34, 0x35, 0x36, 0x37, 0x38, 0x39] = 0x29B1 := by decide +kernel

/-! ## Commands, one step each -/

theorem test_reset : after (.reset 5 30) (withHead .run gassingHead) (fun t =>
    decide (t.mode = .standby ∧ t.ring.own = some 30 ∧ (t.head 4).state = .idle ∧ (t.head 4).gasValve = false
      ∧ (t.head 4).ventValve = true ∧ (t.head 4).resetVentTimer = some 500005)) = true := by decide +kernel

/-- The worked forward correction of chapter 1, its last crossing: head 2's discharge at count 0 with a_dis 5632. -/
theorem test_index_mark_forward_correction :
    after (.indexMark 0 (lines false) [] [])
      (State.setHead 2 (headWith .lifted (some can)) (atCount 6142 0 .forward { State.reset with mode := .run })) (fun t =>
        decide (t.tracker.count = 0 ∧ (t.head 2).state = .idle ∧ t.report.heads[(2 : HeadNo)] = ⟨1, 1, 0, 0⟩))
      = true := by decide +kernel

/-- The example under R7: the count at 2, the index mark sets it to 0 and the hold to 2. -/
theorem test_index_mark_backward_correction :
    after (.indexMark 0 (lines false) [] []) (atCount 2 0 .forward State.reset) (fun t =>
      decide (t.tracker.count = 0 ∧ t.tracker.hold = 2)) = true := by decide +kernel

/-- The worked case at head 4's pitch mark, count 1024: can 1001 is bound with D 7075 and version 2. -/
theorem test_forward_edge_binds :
    after (.forwardEdge 0 (lines true) [])
      (withQueue [ticket] false (atCount 1023 0 .forward (withRecipe .run (headWith .idle none)))) (fun t =>
        decide ((t.head 4).ctx = some can ∧ (t.head 4).state = .bound ∧ t.infeed.running = some 3)) = true := by
  decide +kernel

/-- The worked case at count 1664: the gas start opens the valve, with WINDOW_SHORT at 600 cans a minute. -/
theorem test_forward_edge_starts_the_gas :
    after (.forwardEdge 0 (lines true) []) (atCount 1663 0 .forward (withRecipe .run (headWith .sealed (some can))))
      (fun t => decide ((t.head 4).gasValve = true ∧ (t.head 4).commandTimer = some 170953
        ∧ (t.head 4).sealTimer = some 20000
        ∧ ((t.head 4).ctx.map fun c => (c.start, c.flags.windowShort)) = some (some started, true))) = true := by
  decide +kernel

/-- The rocking example of chapter 1: the first reverse edge takes 1822 to 1821 and halts with cause REVERSE. -/
theorem test_reverse_edge :
    after (.reverseEdge 0) (atCount 1822 0 .forward (withHead .run (headWith .bound (some can)))) (fun t =>
      decide (t.tracker.count = 1821 ∧ t.mode = .halt ∧ t.haltCause = .reverse ∧ t.lineStop = true
        ∧ (t.head 4).inbox.halts = 1)) = true := by decide +kernel

theorem test_pitch_timer_saturation :
    after (.pitchTimerSaturation 0)
      { State.reset with tracker := { State.reset.tracker with pitch := 120000, pitchTimer := .running 0 } } (fun t =>
        decide (t.tracker.pitch = 4000000 ∧ t.tracker.pitchTimer = .saturated)) = true := by decide +kernel

theorem test_can_present_edge : after (.canPresentEdge 0) State.reset (fun t => t.infeed.latch) = true := by
  decide +kernel

/-- Head 11 of section 6.2: an offset of −6 makes 161 read 155, which satisfies the seal watch at 150. -/
theorem test_bell_pressure_sample :
    after (.bellPressureSample 0 4 161) (withHead .run { gassingHead with entry := ⟨true, 0, -6, 0, 0⟩ }) (fun t =>
      decide ((t.head 4).reading = 155 ∧ (t.head 4).sealWatch = none ∧ (t.head 4).inbox.sealReports = 1
        ∧ (t.head 4).comparator = some 600)) = true := by decide +kernel

/-- Head 15 of section 6.5: the fourth sample in a row at or above 4200 N sets the mark. -/
theorem test_crimp_force_sample :
    after (.crimpForceSample 0 4 4490) (withHead .run { crimpingHead with runCount := 3, qualified := false }) (fun t =>
      decide ((t.head 4).runCount = 4 ∧ (t.head 4).qualified = true)) = true := by decide +kernel

/-- The dip of chapter 7: 780 kPa is below the trip of 800, and the timer runs for 40 ms. -/
theorem test_manifold_sample :
    after (.manifoldSample 80000 780) State.reset (fun t =>
      decide (t.supply.state = .dip ∧ t.supply.dipTimer = some 120000)) = true := by decide +kernel

theorem test_overpressure_trip :
    after (.overpressureTrip 150000 4) (withHead .run gassingHead) (fun t =>
      decide ((t.head 4).gasValve = false ∧ ((t.head 4).ctx.map (·.reasons)) = some [.overpressure, .underdose]))
      = true := by decide +kernel

theorem test_seal_level_report :
    after (.sealLevelReport 9500 4) (withHead .run gassingHead) (fun t => (t.head 4).sealReached) = true := by
  decide +kernel

theorem test_command_timer_expiry :
    after (.commandTimerExpiry 170953 4) (withHead .run gassingHead) (fun t =>
      decide ((t.head 4).state = .settling
        ∧ ((t.head 4).ctx.map fun c => (c.finish, c.reasons)) = some (some ⟨170953, .dosed, 7075⟩, []))) = true := by
  decide +kernel

theorem test_seal_check_timer_expiry :
    after (.sealCheckTimerExpiry 20000 4) (withHead .run gassingHead) (fun t =>
      decide ((t.head 4).state = .settling ∧ ((t.head 4).ctx.map (·.reasons)) = some [.noSeal, .underdose])) = true := by
  decide +kernel

theorem test_dwell_timer_expiry :
    after (.dwellTimerExpiry 60000 4 ⟨503, 3318⟩) (withHead .run crimpingHead) (fun t =>
      decide ((t.head 4).state = .crimped ∧ (t.head 4).collet = false
        ∧ ((t.head 4).ctx.map fun c => (c.crimp, c.reasons)) = some (some ⟨503, 3318, true⟩, []))) = true := by
  decide +kernel

theorem test_vent_pulse_timer_expiry :
    after (.ventPulseTimerExpiry 8000 4) (withHead .run { headWith .venting (some can) with
      ventValve := true, ventMode := .pulsing 4 true, ventTimer := some 8000 }) (fun t =>
        decide ((t.head 4).ventValve = false ∧ (t.head 4).ventTimer = some 20000)) = true := by decide +kernel

theorem test_reset_vent_timer_expiry :
    after (.resetVentTimerExpiry 500000 4) State.reset (fun t =>
      decide ((t.head 4).ventValve = false ∧ (t.head 5).ventValve = true)) = true := by decide +kernel

theorem test_dip_timer_expiry :
    after (.dipTimerExpiry 0)
      { State.reset with supply := { State.reset.supply with state := .dip, dipTimer := some 0 } } (fun t =>
        decide (t.supply.state = .low ∧ t.report.flags = 0x080 ∧ (t.head 0).inbox.lows = 1 ∧ (t.head 23).inbox.lows = 1))
      = true := by decide +kernel

/-- Head 2 of chapter 7's dip: 120 ms into a gassing the LOW event ends it. -/
theorem test_low_event :
    after (.lowEvent 120000 4) (withHead .run gassingHead) (fun t =>
      decide ((t.head 4).state = .settling ∧ ((t.head 4).ctx.map (·.reasons)) = some [.underdose, .supplyLow])) = true := by
  decide +kernel

theorem test_head_halt :
    after (.headHalt 0 4) (withHead .halt gassingHead) (fun t =>
      decide ((t.head 4).state = .venting ∧ (t.head 4).clamp = true ∧ (t.head 4).gasValve = false
        ∧ (t.head 4).ventMode = .held ∧ ((t.head 4).ctx.map (·.reasons)) = some [.underdose, .aborted])) = true := by
  decide +kernel

theorem test_tracker_halt_request :
    after (.trackerHaltRequest 0 .encoderSlip) { State.reset with mode := .drain } (fun t =>
      decide (t.mode = .halt ∧ t.haltCause = .encoderSlip)) = true
    ∧ after (.trackerHaltRequest 0 .encoderSlip) State.reset (fun t => decide (t.mode = .standby)) = true := by
  decide +kernel

theorem test_store_operation_timer_expiry :
    after (.storeOperationTimerExpiry 12000)
      { State.reset with store := { State.reset.store with op := some (.markWrite 2), timer := some 12000 } } (fun t =>
        decide (t.store.marks = 2 ∧ t.store.op = none ∧ t.report.flags = 0x200)) = true := by decide +kernel

/-- A STATUS request for address 1 with tag 9, its CRC worked out apart from the model. -/
theorem test_ring_in_frame :
    after (.ringInFrame 0 [0x03, 0x01, 0x09, 0x01, 0x01, 0x34, 0xEB]) State.reset (fun t =>
      decide (t.requestsInHand = [(9, .status)])) = true
    ∧ after (.ringInFrame 0 [0x03, 0x01, 0x09, 0x01, 0x01, 0x34, 0xEC]) State.reset (fun t =>
      decide (t.requestsInHand = [] ∧ t.report.part.malformed = 1 ∧ t.report.flags = 0x004)) = true := by
  decide +kernel

theorem test_infeed_ticket :
    after (.infeedTicket 0 0 ticketBytes) State.reset (fun t => decide (t.infeed.queue = [ticket])) = true := by
  decide +kernel
/-- A ticket waits for the one that arrived before it. -/
theorem test_infeed_ticket_out_of_turn :
    after (.infeedTicket 5 0 ticketBytes) { State.reset with ticketsInHand := [(1, []), (0, ticketBytes)] } (fun t =>
      decide (t = { State.reset with now := 5, ticketsInHand := [(1, []), (0, ticketBytes)] })) = true := by decide +kernel

theorem test_transmit_complete :
    after (.transmitComplete 0) { State.reset with ring := { State.reset.ring with
      transmitter := some [1], relay := [[2]], origin := [.reply ⟨1, 0, .done, false, []⟩], lastServed := .origin } }
      (fun t => decide (t.ring.transmitter = some [2] ∧ t.ring.relay = [] ∧ t.ring.lastServed = .relay)) = true := by
  decide +kernel

/-- A reply waiting in the origin queue, by kind, result and data. -/
def replied (kind : Byte) (r : Result) (data : List Byte) (t : State) : Bool :=
  decide ((t.ring.origin.filterMap fun f =>
    match f with
    | .reply x => some (x.kind, x.result, x.data)
    | .ticket _ => none) = [(kind, r, data)])

theorem test_unknown_request :
    after (.unknownRequest 0 7 ⟨[19], 0⟩) (sending State.reset) (replied 19 .unknown []) = true
    ∧ after (.unknownRequest 0 7 ⟨[2, 9], 0⟩) (sending State.reset) (replied 2 .badField [0, 0]) = true := by decide +kernel

/-- STATUS right after reset: 52 bytes, P 4,000,000, the mask full, no running product. -/
theorem test_status :
    after (.status 0 7) (sending State.reset) (replied 1 .done
      ([0, 0, 0, 0, 0, 0x3D, 0x09, 0x00, 0, 0, 0, 0, 0, 0, 0, 0, 0x07, 0xFF, 0, 0xFF] ++ List.replicate 32 0)) = true := by
  decide +kernel

theorem test_mode_run :
    after (.modeRun 0 7) (sending State.reset) (fun t => decide (t.mode = .run) && replied 2 .done [1, 0] t) = true := by
  decide +kernel
theorem test_mode_drain :
    after (.modeDrain 0 7) (sending (withHead .halt (headWith .lifted (some can)))) (fun t =>
      decide (t.mode = .drain) && replied 2 .done [2, 0] t) = true := by decide +kernel
theorem test_mode_halt :
    after (.modeHalt 0 7) (sending (withHead .run gassingHead)) (fun t =>
      decide (t.mode = .halt ∧ (t.head 4).inbox.halts = 1) && replied 2 .done [3, 1] t) = true := by decide +kernel
theorem test_mode_resume :
    after (.modeResume 0 7) (sending (withHead .halt gassingHead)) (fun t =>
      decide (t.mode = .run ∧ t.lineStop = false) && replied 2 .done [1, 0] t) = true := by decide +kernel
/-- The halt drained to STANDBY of chapter 9: with a can in a head, STANDBY is refused BUSY. -/
theorem test_mode_standby :
    after (.modeStandby 0 7) (sending { withHead .halt gassingHead with haltCause := .requested })
      (replied 2 .busy [3, 1]) = true := by decide +kernel

/-- The procedure of chapter 9: in STANDBY a recipe goes live with its second half, at version 1. -/
theorem test_recipe_gas :
    after (.recipeGas 0 7 3 gas) (sending (State.setSlot 3 ⟨none, .camOnly cam, 0⟩ State.reset)) (fun t =>
      decide (t.slot 3 = ⟨some ⟨gas, cam⟩, .none, 1⟩) && replied 3 .done [0x80, 1] t) = true := by decide +kernel
theorem test_recipe_cam :
    after (.recipeCam 0 7 3 cam) (sending { State.reset with mode := .run }) (fun t =>
      decide (t.slot 3 = ⟨none, .camOnly cam, 0⟩) && replied 4 .done [2, 0] t) = true := by decide +kernel
theorem test_recipe_drop :
    after (.recipeDrop 0 7 3) (sending (State.setSlot 3 ⟨none, .camOnly cam, 0⟩ State.reset)) (fun t =>
      decide (t.slot 3 = ⟨none, .none, 0⟩) && replied 5 .done [0, 0] t) = true := by decide +kernel
theorem test_recipe_clear :
    after (.recipeClear 0 7 3) (sending State.reset) (replied 6 .empty []) = true
    ∧ after (.recipeClear 0 7 3) (sending (withRecipe .run (headWith .idle none))) (fun t =>
      decide ((t.slot 3).pending = .removal) && replied 6 .done [0x84, 2] t) = true := by decide +kernel
theorem test_recipe_read :
    after (.recipeRead 0 7 3 0 0) (sending (withRecipe .run (headWith .idle none))) (replied 7 .done
      [0x80, 2, 0x1B, 0x58, 0x17, 0x70, 0x1F, 0x40, 0x00, 0x96, 0x09, 0xC4, 0x00, 0x1B, 0x00, 0x28, 0x00, 0x17,
       0x06, 0x1A, 0x80, 0x00, 0x96, 0x14, 0x06, 0x00, 0xFA, 0x01, 0xC2]) = true := by decide +kernel

/-- Head 9 of chapter 8: at the limit of 3 an enabling without the reset is refused. -/
theorem test_head_write :
    after (.headWrite 0 7 4 false ⟨1, 0, 0, 0, 0⟩) (sending (withHead .run { headWith .idle none with faults := 3 }))
      (replied 8 .badField []) = true
    ∧ after (.headWrite 0 7 4 true ⟨1, 2, -6, 5, -5⟩) (sending (withHead .run { headWith .idle none with faults := 3 }))
      (fun t => decide ((t.head 4).entry = ⟨true, 2, -6, 5, -5⟩ ∧ (t.head 4).faults = 0)) = true := by decide +kernel
theorem test_head_read :
    after (.headRead 0 7 4) (sending (withHead .run { headWith .idle none with entry := ⟨true, 2, -6, 5, -5⟩ }))
      (replied 9 .done [1, 2, 0xFF, 0xFA, 0x05, 0xFB, 0, 0, 0, 0, 0, 0, 0, 0]) = true := by decide +kernel
theorem test_head_store :
    after (.headStore 5 7 4) (sending State.reset) (fun t =>
      decide (t.store.op = some (.headWrite 4 HeadEntry.blank) ∧ t.store.timer = some 12005)
        && replied 10 .started [] t) = true := by decide +kernel
theorem test_protect :
    after (.protect 0 7 2) (sending { State.reset with mode := .run }) (replied 11 .wrongMode []) = true := by
  decide +kernel
/-- Section 11.3: LATCH over heads 2 to 5 captures four. -/
theorem test_latch :
    after (.latch 0 7 0x00003C) (sending State.reset) (fun t =>
      decide ((t.head 2).snapshot.isSome = true ∧ (t.head 6).snapshot = none) && replied 12 .done [4, 0] t) = true := by
  decide +kernel
theorem test_snapshot :
    after (.snapshot 0 7 4) (sending (withHead .run { headWith .venting (some can) with
      snapshot := some ⟨.venting, 2600, some 3111, none, 12, some 497, 0⟩ })) (fun t =>
        decide ((t.head 4).snapshot = none)
          && replied 13 .done [4, 7, 0x0A, 0x28, 5, 0x00, 0x0C, 0x27, 0, 0, 0, 0, 12, 0x01, 0xF1, 0] t) = true := by
  decide +kernel

/-- The part with one counter of each scope raised. -/
def counted : State :=
  { State.reset with report := { State.reset.report with
      heads := State.reset.report.heads.set 23 ⟨6, 1, 5, 4⟩
      part := ⟨1, 2, 3, 4, 5, 6, 7, 8, 9, Vector.replicate 16 2⟩ } }

theorem test_counters :
    after (.counters 0 7 23) (sending counted) (replied 14 .done [0, 0, 0, 6, 0, 0, 0, 1, 0, 0, 0, 5, 0, 0, 0, 4]) = true
    ∧ after (.counters 0 7 24) (sending counted) (replied 14 .badField []) = true := by decide +kernel
theorem test_counters_clear :
    after (.countersClear 0 7 254) (sending counted) (fun t =>
      decide (t.report.part.rejects[(7 : Fin 16)] = 2 ∧ t.report.part.rejects[(8 : Fin 16)] = 0
        ∧ t.report.part.voids = 1)) = true := by decide +kernel
theorem test_attention :
    after (.attention 0 7 0x100 (some 0x7FE))
      (sending { State.reset with report := { State.reset.report with flags := 0x181 } }) (fun t =>
        decide (t.report.flags = 0x081 ∧ t.report.mask = 0x7FE) && replied 15 .done [0x00, 0x81, 0x07, 0xFE] t) = true := by
  decide +kernel

/-- a_dis must lie above every live lift angle, 5000 here. -/
theorem test_config_write_a_dis :
    after (.configWriteADis 0 7 5000) (sending (withRecipe .standby (headWith .idle none))) (replied 16 .badField []) = true
    ∧ after (.configWriteADis 0 7 5001) (sending (withRecipe .standby (headWith .idle none))) (fun t =>
      decide (t.tracker.aDis = 5001) && replied 16 .done [] t) = true := by decide +kernel
theorem test_config_write_fault_limit :
    after (.configWriteFaultLimit 0 7 15) (sending State.reset) (fun t => decide (t.report.faultLimit = 15)) = true
    ∧ after (.configWriteFaultLimit 0 7 16) (sending State.reset) (replied 16 .badField []) = true := by decide +kernel
theorem test_config_write_nq :
    after (.configWriteNq 0 7 4) (sending State.reset) (fun t => decide (t.nq = 4)) = true
    ∧ after (.configWriteNq 0 7 8) (sending State.reset) (replied 16 .badField []) = true := by decide +kernel
theorem test_config_write_level_pair :
    after (.configWriteLevelPair 0 7 3) (sending State.reset) (fun t => decide (t.supply.levelPair = 3)) = true
    ∧ after (.configWriteLevelPair 0 7 4) (sending State.reset) (replied 16 .badField []) = true := by decide +kernel
theorem test_config_write_dip_tolerance :
    after (.configWriteDipTolerance 0 7 200) (sending State.reset) (fun t => decide (t.supply.dipTolerance = 200)) = true
    ∧ after (.configWriteDipTolerance 0 7 4) (sending State.reset) (replied 16 .badField []) = true := by decide +kernel
theorem test_config_write_valve_class_table :
    after (.configWriteValveClassTable 0 7 (Vector.replicate 4 ⟨20000, 0⟩)) (sending State.reset) (fun t =>
      decide (t.valves = Vector.replicate 4 ⟨20000, 0⟩)) = true
    ∧ after (.configWriteValveClassTable 0 7 (Vector.replicate 4 ⟨20001, 0⟩)) (sending State.reset)
      (replied 16 .badField []) = true := by decide +kernel
theorem test_config_write_flow_table :
    after (.configWriteFlowTable 0 7 (Vector.replicate 8 ⟨0, 100⟩)) (sending State.reset) (replied 16 .badField []) = true
    ∧ after (.configWriteFlowTable 0 7 Config.flowDefaults) (sending State.reset) (replied 16 .done []) = true := by
  decide +kernel
theorem test_config_read :
    after (.configRead 0 7 1) (sending State.reset) (replied 17 .done [1, 0x16, 0x00]) = true
    ∧ after (.configRead 0 7 8) (sending State.reset) (replied 17 .badField []) = true := by decide +kernel
theorem test_restart :
    after (.restart 0 ⟨7, 5⟩) (sending { State.reset with mode := .run }) (replied 18 .wrongMode []) = true
    ∧ after (.restart 0 ⟨7, 5⟩) (sending { State.reset with nq := 4 }) (fun t =>
      decide (t.nq = 16 ∧ t.ring.own = some 5 ∧ t.ring.transmitter = some (frameOf 4 5 7 [18, 0, 0])
        ∧ t.ring.origin = [])) = true := by decide +kernel

/-- Requests are taken in the order they arrived: the second to arrive waits, the first is taken and leaves the second. -/
theorem test_requests_in_arrival_order :
    (let s := sending { State.reset with requestsInHand := [(6, .mode .run), (7, .status)] }
     after (.status 0 7) s (fun t => decide (t = s)) = true
     ∧ after (.modeRun 0 6) s (fun t => decide (t.mode = .run ∧ t.requestsInHand = [(7, .status)])) = true) := by
  decide +kernel

/-! ## What meets the hypotheses of the statements -/

/-- The seven phase events. -/
def PhaseEvent.all : List PhaseEvent := [.sealing, .gasStart, .gasEnd, .crimp, .vent, .lift, .discharge]

/-- A request in hand before another. -/
def holding (tag : Byte) (r : Request) (s : State) : State :=
  { s with requestsInHand := [(tag, r), (tag + 1, .status)] }

/-- The part of `holding` and the part with nothing in hand both admit the request. -/
abbrev admittedBoth (tag : Byte) (r : Request) (s : State) : Prop := s.Admits tag r ∧ (holding tag r s).Admits tag r

theorem test_witness_StepTakesTheFrontCommand :
    (State.pending { State.reset with pending := [.canPresentEdge 0, .canPresentEdge 1] }
      = Instr.canPresentEdge 0 :: [.canPresentEdge 1]) ∧ State.reset.pending = [] := ⟨rfl, rfl⟩

theorem test_witness_RestartIsAResetAnsweredDone :
    admittedBoth 7 .restart State.reset ∧ State.reset.mode = .standby
    ∧ admittedBoth 7 .restart (withHead .halt gassingHead) ∧ (withHead .halt gassingHead).mode ≠ .standby := by
  decide +kernel

/-- Both ends of the suppressed range, and a crossing that a can in BOUND has no event at. -/
theorem test_witness_ForwardEdgeDeliversBySuppressionAndAngle :
    (1 ≤ (0 + 1) % 6144 ∧ (0 + 1) % 6144 ≤ (atCount 0 2 .forward State.reset).tracker.hold)
    ∧ (1 ≤ (1 + 1) % 6144 ∧ (1 + 1) % 6144 ≤ (atCount 1 2 .forward State.reset).tracker.hold)
    ∧ (let s := atCount 2 2 .forward (withHead .run (headWith .bound (some can)))
       ¬ (1 ≤ (2 + 1) % 6144 ∧ (2 + 1) % 6144 ≤ s.tracker.hold) ∧ (2 + 1) % 256 ≠ 0
       ∧ ∀ h : HeadNo, ∀ x ∈ (s.head h).ctx, ∀ e ∈ PhaseEvent.all, relativeAngle 3 h ≠ e.angle s.tracker.aDis x.cam) := by
  decide +kernel

/-- A crossing onto each of head 4's angles that is no pitch mark: head 4 alone has an event there, and only that one. -/
theorem test_witness_ForwardEdgeDelivers_one_event :
    let s := withHead .run (headWith .bound (some { can with cam :=
      { cam with gasStart := 650, gasEnd := 1030, crimp := 1290, vent := 2570 } }))
    let s := { s with tracker := { s.tracker with aDis := 5640 } }
    ∀ e ∈ PhaseEvent.all, ∀ x ∈ (s.head 4).ctx,
      let c := (e.angle s.tracker.aDis x.cam + 1024) % 6144
      c % 256 ≠ 0 ∧ ¬ (1 ≤ c ∧ c ≤ s.tracker.hold) ∧ relativeAngle c 4 = e.angle s.tracker.aDis x.cam
      ∧ ∀ h : HeadNo, ∀ y ∈ (s.head h).ctx, ∀ f ∈ PhaseEvent.all,
          relativeAngle c h = f.angle s.tracker.aDis y.cam → h = 4 ∧ f = e := by decide +kernel

theorem test_witness_PhaseEventOutOfItsStateChangesNothing :
    PhaseEvent.actsIn .sealing ((withHead .run gassingHead).head 4).state = false
    ∧ PhaseEvent.actsIn .discharge (State.reset.head 0).state = false := by decide +kernel

/-- The first and the last of the counts that are a pitch mark, at the largest hold. -/
theorem test_witness_PitchMarkTimesThePitch :
    (let s := atCount 6143 2 .forward State.reset; (s.tracker.count + 1) % 6144 % 256 = 0 ∧ s.tracker.hold ≤ 2)
    ∧ (let s := atCount 5887 0 .forward State.reset; (s.tracker.count + 1) % 6144 % 256 = 0 ∧ s.tracker.hold ≤ 2) := by
  decide +kernel

/-- The recipe table of the worked case holds one recipe, and it is valid. -/
theorem recipesFit_withRecipe (hd : Head) : (withRecipe .run hd).RecipesFit := by
  refine ⟨(by decide : 4096 ≤ 5632 ∧ 5632 ≤ 6143), fun p => ?_, fun h => ?_⟩
  · have slot : (withRecipe .run hd).slot p
        = if p = 3 then { live := some ⟨gas, cam⟩, pending := .none, version := 2 }
          else { live := none, pending := .none, version := 0 } := by
      fin_cases p <;> rfl
    have aDis : (withRecipe .run hd).tracker.aDis = 5632 := rfl
    rw [slot, aDis]
    split
    · refine ⟨?_, ?_, by simp [Pending.gas], by simp [Pending.cam], by decide⟩
      · rintro r ⟨⟩
        exact (by decide : gasValid gas)
      · rintro r ⟨⟩
        exact (by decide : camValid cam 5632)
    · exact ⟨by simp, by simp, by simp [Pending.gas], by simp [Pending.cam], by decide⟩
  · rcases h with h | h <;> cases h

/-- Head 0's and head 23's pitch marks, with a valid recipe in the table and a can in head 4 that has no event there. -/
theorem test_witness_PitchMarkReachesTheTableThenTheInfeed :
    (let s := atCount 6143 0 .forward (withRecipe .run (headWith .bound (some can)))
     (s.tracker.count + 1) % 6144 = 256 * (0 : HeadNo).val ∧ s.tracker.hold ≤ 2 ∧ s.RecipesFit
     ∧ ∀ k : HeadNo, ∀ x ∈ (s.head k).ctx, relativeAngle 0 k ∉
        [x.cam.sealAngle, x.cam.gasStart, x.cam.gasEnd, x.cam.crimp, x.cam.vent, x.cam.lift, s.tracker.aDis])
    ∧ (let s := atCount 5887 2 .forward (withRecipe .run (headWith .bound (some can)))
     (s.tracker.count + 1) % 6144 = 256 * (23 : HeadNo).val ∧ s.tracker.hold ≤ 2 ∧ s.RecipesFit
     ∧ ∀ k : HeadNo, ∀ x ∈ (s.head k).ctx, relativeAngle 5888 k ∉
        [x.cam.sealAngle, x.cam.gasStart, x.cam.gasEnd, x.cam.crimp, x.cam.vent, x.cam.lift, s.tracker.aDis]) := by
  exact ⟨⟨by decide, by decide, recipesFit_withRecipe _, by decide +kernel⟩,
    ⟨by decide, by decide, recipesFit_withRecipe _, by decide +kernel⟩⟩

theorem test_witness_ReverseEdgeHaltsInRunAndDrain :
    (atCount 0 0 .forward State.reset).tracker.count < 6144 ∧ (atCount 6143 0 .forward State.reset).tracker.count < 6144 := by
  decide +kernel

/-- Both ends of each range: 0; 1 and 2; 3 and 6141; 6142 and 6143 in reverse. -/
theorem test_witness_IndexMarkWithoutForwardCorrection :
    ∀ n ∈ [0, 1, 2, 3, 6141, 6142, 6143],
      (atCount n 0 .reverse State.reset).tracker.count < 6144
      ∧ (6142 ≤ (atCount n 0 .reverse State.reset).tracker.count →
          (atCount n 0 .reverse State.reset).tracker.direction = .reverse) := by decide +kernel

theorem test_witness_ForwardCorrectionCrossesLikeForwardEdges :
    ∀ n ∈ [6142, 6143], (atCount n 2 .forward State.reset).tracker.direction = .forward
      ∧ (atCount n 2 .forward State.reset).tracker.hold ≤ 2 ∧ (atCount n 2 .forward State.reset).tracker.count = n := by
  decide +kernel

theorem test_witness_PitchSaturationAndCanPresentEdge :
    (let s := { State.reset with tracker := { State.reset.tracker with pitchTimer := .running 0 } }
     s.tracker.pitchTimer = .running 0) ∧ ∀ since, State.reset.tracker.pitchTimer ≠ .running since :=
  ⟨rfl, fun _ h => by cases h⟩

/-- Counts at both ends, a crossing past the hold, and head 4 with an event at its seal angle, with none, and without a can. -/
theorem test_witness_ACrossingTakesEachOfItsEventsOnce :
    0 < 6144 ∧ 6143 < 6144 ∧ [Arrival.phase 23, .pitchMark, .phase 0].Nodup
    ∧ (let s := atCount 6143 2 .forward State.reset
       ¬ (1 ≤ (s.tracker.count + 1) % 6144 ∧ (s.tracker.count + 1) % 6144 ≤ s.tracker.hold))
    ∧ (let s := atCount 1088 0 .forward (withHead .run (headWith .bound (some can)))
       s.tracker.count % 256 ≠ 0 ∧ (s.head 4).ctx = some can ∧ (s.head 5).ctx = none
       ∧ ∀ e ∈ PhaseEvent.all, (relativeAngle s.tracker.count 4 = e.angle s.tracker.aDis can.cam ↔ e = .sealing))
    ∧ (let s := atCount 5888 0 .forward (withHead .run (headWith .bound (some can)))
       s.tracker.count = 256 * (23 : HeadNo).val
       ∧ ∀ e ∈ PhaseEvent.all, relativeAngle s.tracker.count 4 ≠ e.angle s.tracker.aDis can.cam) := by decide +kernel

/-- The part has an own address, the ticket stands first in hand or none does, or another stands before it; and tickets at
both ends of the checks: serials 0, 1 and 16,777,215, products 15 and 16. -/
theorem test_witness_InfeedTicketChecksInOrder :
    State.reset.ring.own.isSome = true ∧ (∀ x ∈ State.reset.ticketsInHand.head?, x = ((0 : Byte), ticketBytes))
    ∧ (let s := { State.reset with ticketsInHand := [(0, ticketBytes), (1, [])] }
       s.ring.own.isSome = true ∧ (∀ x ∈ s.ticketsInHand.head?, x = ((0 : Byte), ticketBytes))
       ∧ ∃ x ∈ s.ticketsInHand.head?, x ≠ ((1 : Byte), []))
    ∧ (∀ x ∈ [([0, 0, 0, 15, 0, 0, 0, 0], 0, 15), ([0, 0, 1, 16, 0, 0, 0, 0], 1, 16),
        ([0xFF, 0xFF, 0xFF, 15, 0, 0, 0, 0], 16777215, 15)],
        fieldAt x.1 0 3 = x.2.1 ∧ byteAt x.1 3 = x.2.2)
    ∧ ¬ (ticketBytes.length ≠ 8 ∨ fieldAt ticketBytes 0 3 = 0 ∨ fieldAt ticketBytes 0 3 = 16777215
      ∨ 15 < byteAt ticketBytes 3 ∨ 9999 < fieldAt ticketBytes 4 2) := by
  decide +kernel

theorem test_witness_PitchMarkWithATicketInRun :
    (let s := withQueue [ticket] false (withRecipe .run (headWith .idle none))
     s.mode = .run ∧ (s.head 4).state = .idle ∧ s.infeed.queue = [ticket] ∧ s.infeed.latch = false
     ∧ (s.head 4).entry.enabled = true ∧ (s.slot ticket.product).live = some ⟨gas, cam⟩)
    ∧ (let s := withQueue [ticket] true (withHead .run (headWith .idle none))
     s.infeed.latch = true ∧ (s.head 4).entry.enabled = true ∧ (s.slot ticket.product).live = none)
    ∧ (let s := withQueue [ticket] true (withHead .run { headWith .idle none with entry := ⟨false, 0, 0, 0, 0⟩ })
     (s.head 4).state = .idle ∧ (s.head 4).entry.enabled = false) := by decide +kernel

theorem test_witness_PitchMarkWithoutATicketInRun :
    (let s := withQueue [] true (withRecipe .run (headWith .idle none))
     let s := { s with infeed := { s.infeed with running := some 3 } }
     s.mode = .run ∧ (s.head 4).state = .idle ∧ s.infeed.queue = [] ∧ s.infeed.latch = true
     ∧ (s.head 4).entry.enabled = true ∧ s.infeed.running = some 3 ∧ (s.slot 3).live = some ⟨gas, cam⟩)
    ∧ (let s := withQueue [] false (withHead .run (headWith .idle none))
     s.infeed.latch = false ∧ s.infeed.running = none) := by decide +kernel

theorem test_witness_PitchMarkWithoutABind :
    ((withHead .run gassingHead).head 4).state ≠ .idle
    ∧ ((withHead .drain gassingHead).head 0).state = .idle ∧ (withHead .drain gassingHead).mode ≠ .run := by
  decide +kernel

/-- Products at both ends, a half that passes and one that fails, and each of the clauses of a slot. -/
theorem test_witness_RecipeHalvesAreWritten :
    admittedBoth 7 (.recipeGas 15 gas) State.reset ∧ admittedBoth 7 (.recipeCam 15 cam) State.reset
    ∧ admittedBoth 7 (.recipeGas 16 gas) State.reset ∧ gasValid gas ∧ camValid cam State.reset.tracker.aDis
    ∧ ¬ gasValid { gas with d0 := 499 }
    ∧ ¬ camValid { cam with lift := 5632 } State.reset.tracker.aDis ∧ (15 : Nat) = (15 : SlotNo).val ∧ ¬ 16 ≤ 15 := by
  refine ⟨by decide +kernel, by decide +kernel, by decide +kernel, by decide, ?_, by decide, ?_, rfl, by decide⟩
  · exact (by decide : camValid cam 5632)
  · exact (by decide : ¬ camValid { cam with lift := 5632 } 5632)

theorem test_witness_RecipeDropAndClear :
    admittedBoth 7 (.recipeDrop 16) State.reset ∧ admittedBoth 7 (.recipeClear 0) State.reset
    ∧ admittedBoth 7 (.recipeClear 3) (withRecipe .run gassingHead) ∧ 15 < 16
    ∧ (State.reset.slot 0).live = none ∧ (State.reset.slot 0).pending = .none
    ∧ ¬ (((withRecipe .run gassingHead).slot 3).live = none ∧ ((withRecipe .run gassingHead).slot 3).pending = .none) := by
  decide +kernel

theorem test_witness_RecipeReadReturnsAHeldHalf :
    admittedBoth 7 (.recipeRead 15 0 1) State.reset ∧ admittedBoth 7 (.recipeRead 3 0 1) (withRecipe .run gassingHead)
    ∧ (15 : Nat) = (15 : SlotNo).val ∧ (1 : Nat) ≤ 1 ∧ (State.reset.slot 15).live = none
    ∧ ((withRecipe .run gassingHead).slot 3).live = some ⟨gas, cam⟩ ∧ (15 < 16 ∨ 1 < 2 ∨ 1 < 2) := by decide +kernel

theorem test_witness_CommittedDoseIsTheClampedRawDose : 0 < 10 ∧ gasValid gas := ⟨by decide, by decide⟩

/-- A pressure at the floor of the last band and of a middle one, one below every floor, a flow at each end, and a window. -/
theorem test_witness_GasStartFiguresBySteps :
    (let table : Vector FlowBand 8 := Vector.ofFn fun k => ⟨100 * k.val + 7, 400 + k.val⟩
     (∀ k : Fin 8, k = 3 ∨ k = 7 →
        table[k].floor ≤ 100 * k.val + 7 ∧ ∀ j : Fin 8, k < j → 100 * k.val + 7 < table[j].floor)
     ∧ ∀ k : Fin 8, 6 < table[k].floor)
    ∧ 0 < 1 ∧ 0 < 2000 ∧ cam.gasStart < cam.gasEnd := by decide

theorem test_witness_TheCalculatorsPromises :
    cam.gasStart < cam.gasEnd ∧ 0 < 170953 ∧ 0 < advisory cam 170953
    ∧ doseLimited 7075 420 (⟨6000, 3500⟩ : ValveClass).lagOpen (⟨6000, 3500⟩ : ValveClass).lagClose 400000 = false := by
  decide

theorem test_witness_GasStartHasThreeOutcomes :
    (let s := withHead .run (headWith .sealed (some can))
     (s.head 4).state = .sealed ∧ (s.head 4).ctx = some can) := by decide +kernel

theorem test_witness_TheFirstEndCauseEndsTheGassing :
    (let s := withHead .run gassingHead
     (s.head 4).state = .gassing ∧ (s.head 4).ctx = some gassed ∧ gassed.start = some started
     ∧ (s.head 4).commandTimer.isSome = true ∧ (s.head 4).sealTimer.isSome = true ∧ (s.head 4).sealReached = false) := by
  decide +kernel

theorem test_witness_SealReachedAndEventsOutsideGassing :
    (let s := withHead .run { gassingHead with sealReached := true }
     (s.head 4).state = .gassing ∧ (s.head 4).sealReached = true) ∧ (State.reset.head 4).state ≠ .gassing := by
  decide +kernel

theorem test_witness_SealCrimpAndLiftAngles :
    ∀ st ∈ [HeadState.bound, .settling, .venting],
      ((withHead .run (headWith st (some can))).head 4).ctx = some can
      ∧ ((withHead .run (headWith st (some can))).head 4).state = st := by decide +kernel

theorem test_witness_TheCrimpEndsByDwellOrVentAngle :
    (let s := withHead .run crimpingHead
     (s.head 4).state = .crimping ∧ (s.head 4).ctx = some can ∧ (s.head 4).dwellTimer.isSome = true) := by decide +kernel

/-- A vent that pulses, with one pulse left and with two, and a head whose pulse timer is idle. -/
theorem test_witness_TheVentPulsesThenHolds :
    (∀ left ∈ [1, 2], ∀ on ∈ [true, false],
      let s := withHead .run { headWith .venting (some can) with
        ventMode := .pulsing left on, ventTimer := some 8000 }
      (s.head 4).state = .venting ∧ (s.head 4).ctx = some can ∧ (s.head 4).ventTimer.isSome = true
      ∧ (s.head 4).ventMode = .pulsing left on)
    ∧ (let s := withHead .run (headWith .crimped (some can))
       (s.head 4).state = .crimped ∧ (s.head 4).ctx = some can ∧ (s.head 4).ventTimer = none) := by decide +kernel

theorem test_witness_HaltAtAHeadByItsState :
    (State.reset.head 0).state = .idle
    ∧ (∀ st ∈ [HeadState.bound, .sealed, .settling, .crimped, .venting, .crimping],
        ((withHead .run (headWith st (some can))).head 4).ctx = some can
        ∧ ((withHead .run (headWith st (some can))).head 4).state = st)
    ∧ ((withHead .run gassingHead).head 4).state = .gassing ∧ ((withHead .run gassingHead).head 4).ctx = some gassed
    ∧ gassed.start = some started := by decide +kernel

theorem test_witness_DischargeReportsAndFreesTheHead :
    (let c := { can with reasons := [.noSeal, .underdose] }
     let s := withHead .drain (headWith .lifted (some c))
     (s.head 4).state = .lifted ∧ (s.head 4).ctx = some c ∧ c.reasons.Nodup ∧ (s.head 4).ContextFits)
    ∧ (let c := { gassed with finish := some ⟨170953, .dosed, 7075⟩ }
       (headWith .lifted (some c)).ContextFits ∧ c.start.isSome = true) := by decide +kernel

theorem test_witness_SupplyFollowsTheManifold :
    (let s := { State.reset with supply := { State.reset.supply with state := .dip, dipTimer := some 0 } }
     s.supply.state = .dip ∧ s.supply.dipTimer.isSome = true)
    ∧ ¬ (State.reset.supply.state = .dip ∧ State.reset.supply.dipTimer.isSome = true) := by decide +kernel

theorem test_witness_ModeRequestsFollowTheTable :
    ∀ m ∈ [Mode.standby, .run, .drain, .halt], ∀ x ∈ [ModeTarget.run, .drain, .halt, .resume, .standby],
      admittedBoth 7 (.mode x) (withHead m gassingHead) ∧ (withHead m gassingHead).mode = m
      ∧ ((withHead m gassingHead).head 4).ctx.isSome = true
      ∧ admittedBoth 7 (.mode x) (withHead m (headWith .idle none))
      ∧ ∀ h : HeadNo, ((withHead m (headWith .idle none)).head h).ctx = none := by decide +kernel

theorem test_witness_ModeEntriesAndTrackerHalt :
    (∀ h : HeadNo, ((withHead .run (headWith .idle none)).head h).ctx = none)
    ∧ ∃ h : HeadNo, ((withHead .run gassingHead).head h).ctx.isSome = true := by decide +kernel

/-- A frame as the ring carries it, by kind and address, with the payload of MODE HALT or of MODE 6. -/
def frame (kind address target : Byte) : List Byte := frameOf kind address 0 [2, target]

/-- A frame of each route is sound and meets its clause: own ones of each kind, a broadcast request with a defined and with
an undefined target, a frame for another part and one of no kind; and an unsound one. -/
theorem test_witness_RingInFrameIsCheckedAndRouted :
    State.reset.ring.own ≠ some 31 ∧ State.reset.ring.own = some 1
    ∧ (∀ kind ∈ [(1 : Byte), 2, 3, 4, 5], ∀ address ∈ [(1 : Byte), 2, 31],
        soundFrame (frame kind address 3) = true ∧ byteAt (frame kind address 3) 0 = kind.toNat
        ∧ byteAt (frame kind address 3) 1 = address.toNat)
    ∧ framePayload (frame 3 31 3) = [2, 3] ∧ modeTarget 3 = some .halt
    ∧ framePayload (frame 3 31 6) = [2, 6] ∧ modeTarget 6 = none ∧ soundFrame [1, 1, 0, 0, 0] = false := by decide +kernel

theorem test_witness_TransmitCompletionServesTheNextFrame :
    State.reset.ring.transmitter = none ∧ (sending State.reset).ring.transmitter.isSome = true := by decide +kernel

/-- Queues at both ends of each clause, with a reply to evict and without. -/
theorem test_witness_OffersToTheRingQueues :
    (sending State.reset).ring.transmitter.isSome = true
    ∧ (∀ n ∈ [0, 3], (List.replicate n ([] : List Byte)).length < 4) ∧ 4 ≤ (List.replicate 4 ([] : List Byte)).length
    ∧ (let y : Reply := ⟨1, 0, .done, false, []⟩
       let t := OriginFrame.ticket (emittedTicket ticket 4 none false)
       (List.replicate 7 t).length < 8 ∧ 8 ≤ (List.replicate 8 t).length ∧ (∀ z, OriginFrame.reply z ∉ List.replicate 8 t)
       ∧ 8 ≤ (List.replicate 3 t ++ .reply y :: List.replicate 4 t).length
       ∧ ∀ z, OriginFrame.reply z ∉ List.replicate 3 t)
    ∧ State.reset.ring.transmitter = none ∧ State.reset.ring.relay = [] ∧ State.reset.ring.origin = []
    ∧ State.reset.ring.own = some 1 := by
  refine ⟨by decide, by decide, by decide, ⟨by decide, by decide, ?_, by decide, ?_⟩, by decide, rfl, rfl, rfl⟩ <;>
    · intro z h
      simp at h

/-- A ticket and a reply with the longest data section, from both ends of the addresses, and fields at the ends of their
ranges. -/
theorem test_witness_OriginatedFramesAreSound :
    1 ≤ 30 ∧ 30 ≤ 30 ∧ (OriginFrame.ticket (emittedTicket ticket 4 none false)).Fits
    ∧ (OriginFrame.reply ⟨1, 0, .done, false, List.replicate 55 0⟩).Fits
    ∧ ticket.serial < 256 ^ 3 ∧ (emittedTicket ticket 4 none false).version.getD 0 < 256 ^ 1
    ∧ 65535 < 256 ^ 2 ∧ 255 < 256 ^ 1 ∧ 0 < 256 ^ 0
    ∧ (emittedTicket ticket 4 none false).temp.getD (-32768) = -32768 ∧ (-32768 : Int) ≤ 32767
    ∧ (-(2 ^ (8 * 1 + 7)) : Int) ≤ -32768 ∧ (-32768 : Int) < 2 ^ (8 * 1 + 7) ∧ (127 : Int) < 2 ^ (8 * 0 + 7) := by decide

/-- An undefined kind at both ends of the defined ones, a MODE and a CONFIG-WRITE of the wrong length, MODE targets at both
ends of the undefined ones, a part without an address, and a request with another before it in hand. -/
theorem test_witness_RequestPayloadsAreReadAndChecked :
    (∀ p ∈ [[], [0], [19], [255, 1], [2], [16, 8, 0], [2, 0], [2, 6], [2, 255]],
      admittedBoth 7 (requestOf p) (withHead .run gassingHead))
    ∧ ({ State.reset with ring := { State.reset.ring with own := none } } : State).ring.own = none
    ∧ (Instr.status 0 0).request = some (0, .status) ∧ 18 < (19 : Byte).toNat ∧ 5 < (6 : Byte).toNat
    ∧ requestLength [2] 2 = some (some 2) ∧ (some 2 : Option Nat) ≠ some ([] : List Byte).length.succ
    ∧ requestLength [16, 8, 0] 16 = some none
    ∧ (∀ n ∈ [6, 16, 27, 32], (List.replicate n (255 : Byte)).length = n)
    ∧ (holding 7 .restart State.reset).requestsInHand.head? = some (7, .restart)
    ∧ ((7 : Byte), Request.restart) ≠ ((0 : Byte), Request.status) := by decide +kernel

/-- Each kind of reading request, with arguments at both ends of each clause. -/
theorem test_witness_ReadingRequestsChangeNothing :
    admittedBoth 7 .status State.reset
    ∧ (∀ n ∈ [0, 23, 24, 255], admittedBoth 7 (.headRead n) State.reset)
    ∧ (∀ n ∈ [0, 23, 24, 251, 252, 253, 254, 255], admittedBoth 7 (.counters n false) State.reset)
    ∧ (∀ n ∈ [0, 1, 2, 3, 4, 5, 6, 7, 8], admittedBoth 7 (.configRead n) State.reset)
    ∧ (23 : Nat) = (23 : HeadNo).val ∧ 23 < 24 ∧ 24 ∉ [252, 253, 254] ∧ 251 ∉ [252, 253, 254] := by decide +kernel

theorem test_witness_CountersClearAndAttention :
    (∀ n ∈ [23, 24, 251, 252, 254, 255], admittedBoth 7 (.counters n true) State.reset)
    ∧ admittedBoth 7 (.attention 0x100 (some 0)) State.reset
    ∧ (State.reset.scopeBytes 23).isSome = true ∧ State.reset.scopeBytes 24 = none
    ∧ State.reset.scopeBytes 251 = none ∧ (State.reset.scopeBytes 252).isSome = true
    ∧ (State.reset.scopeBytes 254).isSome = true ∧ State.reset.scopeBytes 255 = none := by decide +kernel

/-- A field set at the ends of its ranges, one past them, and an enabling that the fault limit bars. -/
theorem test_witness_HeadWriteIsCheckedWhole :
    admittedBoth 7 (.headWrite 24 false ⟨1, 3, -100, 50, -50⟩) State.reset
    ∧ admittedBoth 7 (.headWrite 4 false ⟨1, 3, 101, 50, -50⟩) State.reset
    ∧ (∀ h ∈ [4, 5], admittedBoth 7 (.headWrite h false ⟨1, 3, -100, 50, -50⟩)
        (withHead .run { headWith .idle none with faults := 3 }))
    ∧ (let f : HeadFields := ⟨1, 3, -100, 50, -50⟩
     f.enabled ≤ 1 ∧ f.valveClass ≤ 3 ∧ (-100 ≤ f.bellOffset ∧ f.bellOffset ≤ 100)
      ∧ (-50 ≤ f.depthOffset ∧ f.depthOffset ≤ 50) ∧ (-50 ≤ f.diameterOffset ∧ f.diameterOffset ≤ 50) ∧ f.enabled = 1)
    ∧ ¬ (101 : Int) ≤ 100
    ∧ (let s := withHead .run { headWith .idle none with faults := 3 }
       s.report.faultLimit ≤ (s.head 4).faults ∧ ¬ s.report.faultLimit ≤ (s.head 5).faults) := by decide +kernel

theorem test_witness_LatchAndSnapshot :
    admittedBoth 7 (.latch 0xFFFFFF) State.reset ∧ admittedBoth 7 (.snapshot 24) State.reset
    ∧ (∀ h ∈ [4, 5], admittedBoth 7 (.snapshot h)
        (withHead .run { headWith .idle none with snapshot := some ⟨.idle, 0, none, none, 0, none, 0⟩ }))
    ∧ (State.reset.head 4).snapshot = none
    ∧ (let s := withHead .run { headWith .idle none with snapshot := some ⟨.idle, 0, none, none, 0, none, 0⟩ }
       (s.head 4).snapshot = some ⟨.idle, 0, none, none, 0, none, 0⟩) := by decide +kernel

/-- Discharge angles at the ends of the range and just above the lift angle in force, and tables that pass and fail. -/
theorem test_witness_ConfigWriteReplacesAWholeGroup :
    (∀ v ∈ [0, 1, 15, 16, 4, 3, 5, 200, 201, 5000, 5001, 6143], ∀ x ∈ [ConfigValue.aDis v, .faultLimit v, .nq v,
        .levelPair v, .dipTolerance v, .valves Config.valveDefaults, .flow Config.flowDefaults],
        admittedBoth 7 (.configWrite x) (withRecipe .standby (headWith .idle none)))
    ∧ admittedBoth 7 (.configWrite (.aDis 5001)) (withHead .run gassingHead) ∧ (let s := withRecipe .standby (headWith .idle none)
     s.mode = .standby ∧ (∀ v ∈ [5001, 6143], 4096 ≤ v ∧ v ≤ 6143 ∧ ∀ p : SlotNo,
        (∀ r ∈ (s.slot p).live, r.cam.lift < v) ∧ ∀ c ∈ (s.slot p).pending.cam, c.lift < v)
      ∧ ¬ ∀ p : SlotNo, ∀ r ∈ (s.slot p).live, r.cam.lift < 5000)
    ∧ ValvesFit Config.valveDefaults ∧ ¬ ValvesFit (Vector.replicate 4 ⟨20001, 0⟩)
    ∧ FlowFits Config.flowDefaults ∧ ¬ FlowFits (Vector.replicate 8 ⟨0, 1⟩)
    ∧ (withHead .run gassingHead).mode ≠ .standby := by decide +kernel

theorem test_witness_StoreOperationsStartAndComplete :
    (∀ n ∈ [0, 23, 24], admittedBoth 7 (.headStore n) State.reset) ∧ admittedBoth 7 (.protect 0xF) State.reset
    ∧ 23 < 24 ∧ (23 : Nat) = (23 : HeadNo).val := by decide +kernel

/-! ### The invariants: a state in the middle of a run, with a command that ends the gassing -/

/-- The worked case while head 4 gasses can 1001, with a trip at the front of the queue. -/
def running : State :=
  { withQueue [{ ticket with serial := 1002 }] false (withRecipe .run gassingHead) with pending := [.overpressureTrip 5 4] }

/-- The part empty in HALT. -/
def halted : State :=
  { withHead .halt (headWith .idle none) with
    haltCause := .requested, lineStop := true, pending := [.modeStandby 0 1] }

theorem test_witness_a_step : (∃ t, step running = .next t) ∧ ∃ t, step halted = .next t := ⟨⟨_, rfl⟩, ⟨_, rfl⟩⟩

theorem test_witness_EveryStepKeepsTheHeadsToTheirStates : running.HeadsFit := by decide +kernel

theorem test_witness_EveryStepKeepsStandbyEmptyAndTheLineStop : halted.StandbyEmpty ∧ halted.HaltFits := by decide +kernel

theorem test_witness_EveryStepKeepsTheRecipesValid : running.RecipesFit := recipesFit_withRecipe gassingHead

theorem test_witness_EveryStepKeepsDosesAndReasonsFit : running.DosesFit ∧ running.ReasonsFit := by decide +kernel

theorem test_witness_EveryStepKeepsTheQueuesBounded : running.QueuesFit := by decide +kernel

theorem test_witness_EveryStepKeepsSerialsUnique : running.SerialsFit := by decide +kernel

theorem test_witness_EveryStepKeepsTheUnitsInTheirRanges :
    running.TrackerFits ∧ running.SupplyFits ∧ running.StoreFits ∧ running.AddressFits ∧ running.LineConfigurationFits
    ∧ running.ReadingsFit := by decide +kernel

theorem test_witness_CountersFallOnlyByClearOrReset :
    running.CountersFit ∧ (∃ t, exec (.overpressureTrip 5 4) running = .next t)
    ∧ ¬ Instr.MayLowerCounters (.overpressureTrip 5 4) :=
  ⟨by decide +kernel, ⟨_, rfl⟩, by simp [Instr.MayLowerCounters]⟩

/-- A forward edge onto the gas-start angle of a SEALED head in RUN takes it to GASSING. -/
theorem test_witness_GassingBeginsOnlyInRunOrDrainAndNotInLow :
    ((atCount 1663 0 .forward (withRecipe .run (headWith .sealed (some can)))).head 4).state ≠ .gassing
    ∧ after (.forwardEdge 0 (lines true) []) (atCount 1663 0 .forward (withRecipe .run (headWith .sealed (some can))))
      (fun t => decide ((t.head 4).state = .gassing)) = true := by decide +kernel

end Sys2Proof.Tests
end

section
/-! SUPPORT. The readings of one head, and what every event of a head does to them (R101, R102, R107). -/

namespace Sys2Proof.Machine

/-! ## Head by head -/

/-- What holds of every head holds of every head after one is put back of which it holds. -/
theorem State.forall_head_setHead {Q : Head → Prop} {s : State} (all : ∀ k : HeadNo, Q (s.head k)) (h : HeadNo)
    {hd : Head} (new : Q hd) (k : HeadNo) : Q ((s.setHead h hd).head k) := by
  by_cases same : k = h
  · rw [same, State.setHead_head]
    exact new
  · rw [State.setHead_head_ne s hd same]
    exact all k

/-! ## The readings of a context and of a head -/

/-- The peak and the settle pressure of a can context lie in 0..1500 kPa (R101, R102). -/
abbrev Context.ReadingsFit (c : Context) : Prop := (∀ p ∈ c.peak, p ≤ 1500) ∧ ∀ p ∈ c.settle, p ≤ 1500

/-- What `State.ReadingsFit` says of one head. -/
abbrev Head.ReadingsFit (hd : Head) : Prop :=
  hd.reading ≤ 1500 ∧ (∀ c ∈ hd.ctx, c.ReadingsFit) ∧ ∀ x ∈ hd.snapshot, x.reading ≤ 1500 ∧ ∀ p ∈ x.peak, p ≤ 1500

/-- The invariant of the readings is that of each head. -/
theorem State.readingsFit_iff (s : State) : s.ReadingsFit ↔ ∀ h : HeadNo, (s.head h).ReadingsFit := Iff.rfl

/-- The context that a head holds has its pressures in their range. -/
theorem Head.ReadingsFit.ctx {hd : Head} {c : Context} (fits : hd.ReadingsFit) (held : hd.ctx = some c) :
    c.ReadingsFit := fits.2.1 c held

/-- A head that keeps its reading and its context, its snapshot slot emptied, has its readings in their range. -/
theorem Head.ReadingsFit.emptied {hd new : Head} (fits : hd.ReadingsFit) (reading : new.reading = hd.reading)
    (ctx : new.ctx = hd.ctx) (snapshot : new.snapshot = none) : new.ReadingsFit :=
  ⟨reading ▸ fits.1, ctx ▸ fits.2.1, by simp [snapshot]⟩

/-- An event that leaves the reading and the snapshot needs only a fit context. -/
theorem Head.ReadingsFit.withCtx {hd new : Head} (fits : hd.ReadingsFit) (reading : new.reading = hd.reading)
    (snapshot : new.snapshot = hd.snapshot) (ctx : ∀ c ∈ new.ctx, c.ReadingsFit) : new.ReadingsFit :=
  ⟨reading ▸ fits.1, ctx, snapshot ▸ fits.2.2⟩

/-- An event that leaves the reading, the snapshot and the context leaves the readings fit. -/
theorem Head.ReadingsFit.same {hd new : Head} (fits : hd.ReadingsFit) (reading : new.reading = hd.reading)
    (snapshot : new.snapshot = hd.snapshot) (ctx : new.ctx = hd.ctx) : new.ReadingsFit :=
  fits.withCtx reading snapshot (ctx ▸ fits.2.1)

/-- An event that leaves the reading and the snapshot and puts a context with the old one's peak and settle pressure leaves
the readings fit. -/
theorem Head.ReadingsFit.carried {hd new : Head} {c d : Context} (fits : hd.ReadingsFit) (held : hd.ctx = some c)
    (reading : new.reading = hd.reading) (snapshot : new.snapshot = hd.snapshot) (put : new.ctx = some d)
    (peak : d.peak = c.peak) (settle : d.settle = c.settle) : new.ReadingsFit := by
  refine fits.withCtx reading snapshot fun x mem => ?_
  obtain rfl : d = x := by simpa [put] using mem
  obtain ⟨peakFits, settleFits⟩ := fits.ctx held
  exact ⟨peak ▸ peakFits, settle ▸ settleFits⟩

@[simp] theorem Context.endGassing_peak (cause : GasEndCause) (elapsed : Nat) (c : Context) :
    (c.endGassing cause elapsed).peak = c.peak := by
  unfold Context.endGassing
  split <;> rfl

@[simp] theorem Context.endGassing_settle (cause : GasEndCause) (elapsed : Nat) (c : Context) :
    (c.endGassing cause elapsed).settle = c.settle := by
  unfold Context.endGassing
  split <;> rfl

/-! ## The phase events -/

section Events
variable {hd : Head} (fits : hd.ReadingsFit)
include fits

theorem Head.ReadingsFit.onSeal : hd.onSeal.ReadingsFit := by
  unfold Head.onSeal
  split
  · exact fits.same rfl rfl rfl
  · exact fits

theorem Head.ReadingsFit.skipGas {c : Context} (held : hd.ctx = some c) (reason : Reason) :
    (hd.skipGas reason c).ReadingsFit :=
  fits.carried held rfl rfl rfl rfl rfl

/-- The peak of a gassing starts at 0 (R103). -/
theorem Head.ReadingsFit.beginGassing {c : Context} (held : hd.ctx = some c) (now : Nat) (figures : GasStart)
    (flags : InfoFlags) : (hd.beginGassing now figures flags c).ReadingsFit := by
  refine fits.withCtx rfl rfl fun d mem => ?_
  cases mem
  exact ⟨by simp, (fits.ctx held).2⟩

theorem Head.ReadingsFit.stopGas {c : Context} (held : hd.ctx = some c) (cause : GasEndCause) (elapsed : Nat) :
    (hd.stopGas cause elapsed c).ReadingsFit :=
  fits.carried held rfl rfl rfl (c.endGassing_peak cause elapsed) (c.endGassing_settle cause elapsed)

theorem Head.ReadingsFit.endGassing (cause : GasEndCause) (now : Nat) : (hd.endGassing cause now).ReadingsFit := by
  rcases hd.endGassing_cases cause now with h | ⟨c, -, held, h⟩
  · rwa [h]
  · exact h ▸ fits.stopGas held cause _

/-- The settle pressure is the current reading (R85). -/
theorem Head.ReadingsFit.onCrimp (now nq : Nat) : (hd.onCrimp now nq).ReadingsFit := by
  rcases hd.onCrimp_cases now nq with h | ⟨c, rs, -, held, -, h⟩
  · rwa [h]
  · rw [h]
    refine fits.withCtx rfl rfl fun d mem => ?_
    cases mem
    refine ⟨(fits.ctx held).1, fun p settled => ?_⟩
    cases settled
    exact fits.1

theorem Head.ReadingsFit.holdVent {c d : Context} (held : hd.ctx = some c) (peak : d.peak = c.peak)
    (settle : d.settle = c.settle) : (hd.holdVent d).ReadingsFit :=
  fits.carried held rfl rfl rfl peak settle

theorem Head.ReadingsFit.beginVent {c d : Context} (held : hd.ctx = some c) (peak : d.peak = c.peak)
    (settle : d.settle = c.settle) (now : Nat) : (hd.beginVent now d).ReadingsFit := by
  rcases hd.beginVent_cases now d with h | h
  · exact h ▸ fits.holdVent held peak settle
  · exact h ▸ fits.carried held rfl rfl rfl peak settle

theorem Head.ReadingsFit.releaseCollet : hd.releaseCollet.ReadingsFit := fits.same rfl rfl rfl

theorem Head.ReadingsFit.onVent (now : Nat) (gauge : Gauge) : (hd.onVent now gauge).ReadingsFit := by
  rcases hd.onVent_cases now gauge with h | ⟨c, -, held, h⟩ | ⟨c, d, -, held, rfl, h | h⟩
  · rwa [h]
  · exact h ▸ fits.beginVent held rfl rfl now
  · exact h ▸ fits.releaseCollet.holdVent (c := c) held rfl rfl
  · rw [h]
    refine fits.releaseCollet.beginVent (c := c) held ?_ ?_ now <;> rfl

theorem Head.ReadingsFit.onLift : hd.onLift.ReadingsFit := by
  unfold Head.onLift
  split
  · rename_i c _ held
    exact fits.carried held rfl rfl rfl rfl rfl
  · exact fits

theorem Head.ReadingsFit.dropContext : hd.dropContext.ReadingsFit := fits.withCtx rfl rfl fun _ mem => by cases mem

/-- A context is bound with neither a peak nor a settle pressure (section 2.5). -/
theorem Head.ReadingsFit.bind {c : Context} (peak : c.peak = none) (settle : c.settle = none) :
    (hd.bind c).ReadingsFit := by
  refine fits.withCtx rfl rfl fun d mem => ?_
  cases mem
  exact ⟨by simp [peak], by simp [settle]⟩

/-! ## The timers, the messages and the samples -/

theorem Head.ReadingsFit.onCommandExpiry : hd.onCommandExpiry.ReadingsFit := by
  rcases hd.onCommandExpiry_cases with h | ⟨c, elapsed, -, held, h⟩
  · rwa [h]
  · exact h ▸ fits.stopGas held .dosed elapsed

theorem Head.ReadingsFit.onSealExpiry (now : Nat) : (hd.onSealExpiry now).ReadingsFit := by
  rcases hd.onSealExpiry_cases now with h | h | ⟨-, h⟩
  · rwa [h]
  · exact h ▸ fits.endGassing .noSeal now
  · exact h ▸ fits.same rfl rfl rfl

theorem Head.ReadingsFit.onSealReport : hd.onSealReport.ReadingsFit := by
  unfold Head.onSealReport
  split
  · exact fits.same rfl rfl rfl
  · exact fits

theorem Head.ReadingsFit.onDwellExpiry (gauge : Gauge) : (hd.onDwellExpiry gauge).ReadingsFit := by
  unfold Head.onDwellExpiry
  split
  · rename_i c _ _ held _
    dsimp only
    split
    · exact fits.releaseCollet.holdVent (c := c) held rfl rfl
    · exact fits.carried held rfl rfl rfl rfl rfl
  · exact fits

theorem Head.ReadingsFit.onVentExpiry (now : Nat) : (hd.onVentExpiry now).ReadingsFit := by
  unfold Head.onVentExpiry
  split
  · exact fits.same rfl rfl rfl
  · split
    · exact fits.same rfl rfl rfl
    · exact fits.same rfl rfl rfl
  · exact fits

theorem Head.ReadingsFit.onHalt (now : Nat) : (hd.onHalt now).ReadingsFit := by
  rcases hd.onHalt_cases now with h | ⟨c, held, -, h⟩ | ⟨c, held, -, h⟩ | ⟨c, held, -, h⟩
  · rwa [h]
  · exact h ▸ fits.holdVent held rfl rfl
  · exact h ▸ (fits.stopGas held .aborted (c.gasElapsed now)).holdVent rfl rfl rfl
  · exact h ▸ fits.carried held rfl rfl rfl rfl rfl

theorem Head.ReadingsFit.onResetVentExpiry : hd.onResetVentExpiry.ReadingsFit := by
  unfold Head.onResetVentExpiry
  split
  · exact fits.same rfl rfl rfl
  · exact fits

/-- A peak raised by a reading that lies in 0..1500 lies there too (R102). -/
theorem Head.ReadingsFit.raisePeak : hd.raisePeak.ReadingsFit := by
  rcases hd.raisePeak_cases with h | h
  · rwa [h]
  · rw [h]
    refine fits.withCtx rfl rfl fun d mem => ?_
    obtain ⟨c, held, rfl⟩ := Option.mem_map.1 mem
    refine ⟨fun p peak => ?_, (fits.ctx held).2⟩
    obtain ⟨q, old, rfl⟩ := Option.mem_map.1 peak
    exact max_le fits.1 ((fits.ctx held).1 q old)

theorem Head.ReadingsFit.testComparator : hd.testComparator.ReadingsFit := by
  rcases hd.testComparator_cases with h | h
  · rwa [h]
  · rw [h]
    exact fits.same rfl rfl rfl

theorem Head.ReadingsFit.testSealWatch : hd.testSealWatch.ReadingsFit := by
  rcases hd.testSealWatch_cases with h | h
  · rwa [h]
  · rw [h]
    exact fits.same rfl rfl rfl

/-- A sample's reading lies in 0..1500 (R101). -/
theorem Head.ReadingsFit.bellSample (raw : Int) : (hd.bellSample raw).ReadingsFit := by
  have read : Head.ReadingsFit { hd with reading := bellReading hd.entry raw } := ⟨clampTo_le 1500 _, fits.2⟩
  exact read.raisePeak.testComparator.testSealWatch

/-! A message taken leaves the readings. -/

theorem Head.ReadingsFit.takeTrip : hd.takeTrip.ReadingsFit := fits.same rfl rfl rfl
theorem Head.ReadingsFit.takeReport : hd.takeReport.ReadingsFit := fits.same rfl rfl rfl
theorem Head.ReadingsFit.takeLow : hd.takeLow.ReadingsFit := fits.same rfl rfl rfl
theorem Head.ReadingsFit.takeHaltMessage : hd.takeHaltMessage.ReadingsFit := fits.same rfl rfl rfl

theorem Head.ReadingsFit.forceSample (newtons : Int) : (hd.forceSample newtons).ReadingsFit := by
  obtain ⟨n, q, h⟩ := hd.forceSample_frame newtons
  exact h ▸ fits.same rfl rfl rfl

end Events

end Sys2Proof.Machine
end

section
/-! SUPPORT. What the events of a crossing can do to the part, said once: each is a chain of the changes of `CrossingChange`,
so that what every one of these changes keeps is kept by a whole crossing, whatever the order of its events (R11). -/

namespace Sys2Proof.Machine

/-- One change that an event of a crossing makes, with what the units' ranges need to know of it. -/
inductive CrossingChange : State → State → Prop
  /-- P is timed (R13). -/
  | pitchMark (s : State) : CrossingChange s (s.setTracker (s.tracker.pitchMark s.now))
  | infeed (s : State) (u : Infeed) : CrossingChange s (s.setInfeed u)
  /-- One head is put back, its readings in their range if they were. -/
  | head (s : State) (h : HeadNo) (hd : Head) (readings : (s.head h).ReadingsFit → hd.ReadingsFit) :
    CrossingChange s (s.setHead h hd)
  /-- Counters and flags move; the fault limit and the attention mask stay. -/
  | report (s : State) (p : Report) (limit : p.faultLimit = s.report.faultLimit) (mask : p.mask = s.report.mask) :
    CrossingChange s { s with report := p }
  /-- The ring queues move; the pins and the own address stay, and no relay frame joins. -/
  | ring (s : State) (r : Ring) (pins : r.pins = s.ring.pins) (own : r.own = s.ring.own)
    (relay : r.relay.length ≤ s.ring.relay.length) : CrossingChange s { s with ring := r }
  | promote (s : State) : CrossingChange s s.promoteAll
  | standby (s : State) : CrossingChange s s.enterStandby

/-- One state comes of another by the changes that a crossing makes. -/
abbrev State.Crosses (s t : State) : Prop := Relation.ReflTransGen CrossingChange s t

/-- What every change of a crossing keeps is kept by all of them together. -/
theorem State.Crosses.keeps {P : State → Prop} (keep : ∀ s t, CrossingChange s t → P s → P t) {s t : State}
    (c : s.Crosses t) (start : P s) : P t := by
  induction c with
  | refl => exact start
  | tail _ change ih => exact keep _ _ change ih

/-! ## The ring, the counters and the flags -/

theorem State.raise_crosses (f : AttentionFlag) (s : State) : s.Crosses (s.raise f) :=
  .single (.report s _ rfl rfl)

theorem State.bumpPart_crosses (f : PartCounters → PartCounters) (s : State) : s.Crosses (s.bumpPart f) :=
  .single (.report s _ rfl rfl)

theorem State.bumpHead_crosses (h : HeadNo) (f : HeadCounters → HeadCounters) (s : State) : s.Crosses (s.bumpHead h f) :=
  .single (.report s _ rfl rfl)

/-- An event is counted and its attention flag set. -/
theorem State.bumpPart_raise_crosses (f : PartCounters → PartCounters) (a : AttentionFlag) (s : State) :
    s.Crosses ((s.bumpPart f).raise a) :=
  (s.bumpPart_crosses f).trans (State.raise_crosses a _)

theorem State.arbitrate_crosses (s : State) : s.Crosses s.arbitrate := by
  rcases s.arbitrate_cases with ⟨h, -⟩ | ⟨f, fs, -, relay, h⟩ | ⟨g, gs, -, -, h⟩
  · rw [h]
  · rw [h]
    exact .single (.ring s _ rfl rfl (by simp [relay]))
  · rw [h]
    exact .single (.ring s _ rfl rfl le_rfl)

theorem State.enterOrigin_crosses (f : OriginFrame) (q : List OriginFrame) (s : State) :
    s.Crosses (s.enterOrigin f q) :=
  .trans (.single (.ring s { s.ring with origin := q ++ [f] } rfl rfl le_rfl)) (State.arbitrate_crosses _)

theorem State.loseReply_crosses (s : State) : s.Crosses s.loseReply :=
  s.bumpPart_raise_crosses _ _

theorem State.offerTicket_crosses (t : DischargeTicket) (s : State) : s.Crosses (s.offerTicket t) := by
  unfold State.offerTicket
  split
  · exact s.enterOrigin_crosses _ _
  · split
    · exact s.loseReply_crosses.trans (State.enterOrigin_crosses _ _ _)
    · exact s.bumpPart_raise_crosses _ _

theorem State.offerReply_crosses (r : Reply) (s : State) : s.Crosses (s.offerReply r) := by
  unfold State.offerReply
  split
  · exact s.enterOrigin_crosses _ _
  · exact s.loseReply_crosses

/-! ## The heads and the discharge -/

theorem State.onHead_crosses {h : HeadNo} {f : Head → Head} {s : State}
    (readings : (s.head h).ReadingsFit → (f (s.head h)).ReadingsFit) : s.Crosses (s.onHead h f) :=
  .single (.head s h _ readings)

theorem State.drainCheck_crosses (s : State) : s.Crosses s.drainCheck := by
  rcases s.drainCheck_cases with h | ⟨-, -, h⟩
  · rw [h]
  · rw [h]
    exact .single (.standby s)

theorem State.disableHead_crosses (h : HeadNo) (s : State) : s.Crosses (s.disableHead h) :=
  (State.onHead_crosses fun fits => fits.same rfl rfl rfl).trans (State.raise_crosses _ _)

theorem State.accountRun_crosses (h : HeadNo) (faulty : Bool) (s : State) : s.Crosses (s.accountRun h faulty) := by
  have counted : ∀ n, s.Crosses (s.onHead h fun hd => { hd with faults := n }) := fun n =>
    State.onHead_crosses fun fits => fits.same rfl rfl rfl
  unfold State.accountRun
  dsimp only
  split
  · exact s.disableHead_crosses h
  · split
    · split
      · exact (counted _).trans (State.disableHead_crosses h _)
      · exact counted _
    · exact counted 0

theorem State.faultAccounting_crosses (h : HeadNo) (reasons : List Reason) (s : State) :
    s.Crosses (s.faultAccounting h reasons) := by
  unfold State.faultAccounting
  dsimp only
  split
  · exact (s.bumpHead_crosses h _).trans (State.accountRun_crosses h _ _)
  · exact s.accountRun_crosses h _

theorem State.reportCan_crosses (h : HeadNo) (c : Context) (s : State) : s.Crosses (s.reportCan h c) := by
  refine (s.faultAccounting_crosses h c.reasons).trans (.trans ?_ (State.offerTicket_crosses _ _))
  exact (State.bumpHead_crosses _ _ _).trans (State.bumpPart_crosses _ _)

theorem dischargeEvent_crosses (h : HeadNo) (s : State) : s.Crosses (dischargeEvent h s) := by
  unfold dischargeEvent
  split
  · exact (s.reportCan_crosses h _).trans
      (.trans (State.onHead_crosses fun fits => fits.dropContext) (State.drainCheck_crosses _))
  · rfl

/-! ## The phase events -/

theorem gasStartEvent_crosses (h : HeadNo) (s : State) : s.Crosses (gasStartEvent h s) := by
  unfold gasStartEvent
  split
  · rename_i c _ held
    split
    · exact State.onHead_crosses fun fits => fits.skipGas held _
    · split
      · exact State.onHead_crosses fun fits => fits.skipGas held _
      · exact State.onHead_crosses fun fits => fits.beginGassing held _ _ _
  · rfl

theorem takePhase_crosses (h : HeadNo) (gauge : Gauge) (e : PhaseEvent) (s : State) :
    s.Crosses (takePhase h gauge e s) := by
  cases e with
  | sealing => exact State.onHead_crosses fun fits => fits.onSeal
  | gasStart => exact gasStartEvent_crosses h s
  | gasEnd => exact State.onHead_crosses fun fits => fits.endGassing _ _
  | crimp => exact State.onHead_crosses fun fits => fits.onCrimp _ _
  | vent => exact State.onHead_crosses fun fits => fits.onVent _ _
  | lift => exact State.onHead_crosses fun fits => fits.onLift
  | discharge => exact dischargeEvent_crosses h s

/-! ## The pitch mark -/

theorem State.emitAtOnce_crosses (t : Ticket) (h : HeadNo) (reason : Option Reason) (s : State) :
    s.Crosses (s.emitAtOnce t h reason) := by
  have counted : ∀ d, s.Crosses (s.countEmitted d) := fun d => by
    unfold State.countEmitted
    split <;> exact s.bumpPart_crosses _
  exact (counted _).trans (State.offerTicket_crosses _ _)

theorem State.dealTicket_crosses (h : HeadNo) (t : Ticket) (s : State) : s.Crosses (s.dealTicket h t) := by
  unfold State.dealTicket
  split
  · split
    · exact s.emitAtOnce_crosses t h _
    · exact .trans (State.onHead_crosses fun fits => fits.bind rfl rfl) (.single (.infeed _ _))
  · exact s.emitAtOnce_crosses t h _

theorem State.countUntracked_crosses (s : State) : s.Crosses s.countUntracked :=
  s.bumpPart_raise_crosses _ _

theorem State.untrackedCan_crosses (h : HeadNo) (s : State) : s.Crosses (s.untrackedCan h) := by
  refine s.countUntracked_crosses.trans ?_
  unfold State.untrackedCan
  dsimp only
  split
  · split
    · rfl
    · split
      · rfl
      · exact State.onHead_crosses fun fits => fits.bind rfl rfl
  · rfl

theorem State.infeedPitch_crosses (h : HeadNo) (high : Bool) (s : State) : s.Crosses (s.infeedPitch h high) := by
  refine .trans (.single (.infeed s { s.infeed with latch := false })) ?_
  unfold State.infeedPitch
  dsimp only
  split
  · split
    · rename_i rest _
      refine .trans (.single (.infeed _ { s.infeed with latch := false, queue := rest })) ?_
      split
      · split
        · exact State.dealTicket_crosses h _ _
        · exact State.emitAtOnce_crosses _ h _ _
      · exact State.emitAtOnce_crosses _ h _ _
    · split
      · split
        · exact State.untrackedCan_crosses h _
        · exact State.countUntracked_crosses _
      · rfl
  · exact State.bumpPart_crosses _ _

theorem State.promoteAtPitch_crosses (s : State) : s.Crosses s.promoteAtPitch := by
  unfold State.promoteAtPitch
  split
  · exact .single (.promote s)
  · rfl

theorem State.pitchMark_crosses (h : HeadNo) (high : Bool) (s : State) : s.Crosses (s.pitchMark h high) :=
  .trans (.single (.pitchMark s)) ((State.promoteAtPitch_crosses _).trans (State.infeedPitch_crosses h high _))

/-! ## The crossing -/

theorem deliver_crosses (lines : Lines) (s : State) (a : Arrival) : s.Crosses (deliver lines s a) := by
  rcases deliver_cases lines s a with h | ⟨-, h⟩ | ⟨k, e, -, -, h⟩
  · rw [h]
  · rw [h]
    exact s.pitchMark_crosses _ _
  · rw [h]
    exact takePhase_crosses k _ e s

theorem deliverAll_crosses (lines : Lines) (order : List Arrival) (s : State) : s.Crosses (deliverAll lines order s) :=
  deliverAll_keeps order (fun a t before => before.trans (deliver_crosses lines t a)) .refl

/-! ## What a crossing leaves -/

/-- What a crossing leaves of a state: its clock and commands, the count, the direction, the hold and the discharge angle,
the line configuration, the supply, the store, what is in hand, the address and the mask; no relay frame joins. -/
structure State.CrossingFrame (s t : State) : Prop where
  now : t.now = s.now
  pending : t.pending = s.pending
  count : t.tracker.count = s.tracker.count
  direction : t.tracker.direction = s.tracker.direction
  hold : t.tracker.hold = s.tracker.hold
  aDis : t.tracker.aDis = s.tracker.aDis
  valves : t.valves = s.valves
  nq : t.nq = s.nq
  supply : t.supply = s.supply
  store : t.store = s.store
  requestsInHand : t.requestsInHand = s.requestsInHand
  ticketsInHand : t.ticketsInHand = s.ticketsInHand
  faultLimit : t.report.faultLimit = s.report.faultLimit
  mask : t.report.mask = s.report.mask
  pins : t.ring.pins = s.ring.pins
  own : t.ring.own = s.ring.own
  relay : t.ring.relay.length ≤ s.ring.relay.length

theorem State.CrossingFrame.refl (s : State) : s.CrossingFrame s := by
  constructor <;> rfl

theorem CrossingChange.frame {s t : State} (c : CrossingChange s t) : s.CrossingFrame t := by
  cases c with
  | pitchMark | infeed | head | promote | standby => constructor <;> simp [Tracker.pitchMark]
  | report p limit mask => exact { State.CrossingFrame.refl s with faultLimit := limit, mask := mask }
  | ring r pins own relay => exact { State.CrossingFrame.refl s with pins := pins, own := own, relay := relay }

theorem State.CrossingFrame.trans {s t u : State} (a : s.CrossingFrame t) (b : t.CrossingFrame u) : s.CrossingFrame u where
  now := b.now.trans a.now
  pending := b.pending.trans a.pending
  count := b.count.trans a.count
  direction := b.direction.trans a.direction
  hold := b.hold.trans a.hold
  aDis := b.aDis.trans a.aDis
  valves := b.valves.trans a.valves
  nq := b.nq.trans a.nq
  supply := b.supply.trans a.supply
  store := b.store.trans a.store
  requestsInHand := b.requestsInHand.trans a.requestsInHand
  ticketsInHand := b.ticketsInHand.trans a.ticketsInHand
  faultLimit := b.faultLimit.trans a.faultLimit
  mask := b.mask.trans a.mask
  pins := b.pins.trans a.pins
  own := b.own.trans a.own
  relay := b.relay.trans a.relay

theorem State.Crosses.frame {s t : State} (c : s.Crosses t) : s.CrossingFrame t :=
  c.keeps (P := s.CrossingFrame) (fun _ _ change before => before.trans change.frame) (.refl s)

end Sys2Proof.Machine
end

section
/-! SUPPORT. What every command can do to the part, said once: each is a chain of the changes of `Change`, so that a range
that every one of these changes keeps is kept by every command and every step. -/

namespace Sys2Proof

/-- The levels on the address pins that a command brings for the RESTART it may spell (R160); no other request reads them. -/
def Instr.pinsRead : Instr → BitVec 5
  | .unknownRequest _ _ payload => payload.pins
  | .restart _ tag => tag.pins
  | _ => 0

end Sys2Proof

namespace Sys2Proof.Machine

/-- One change that a command makes, with what the units' ranges need to know of it. -/
inductive Change : State → State → Prop
  | clock (s : State) (dt : Nat) : Change s (s.elapse dt)
  /-- The front command leaves the queue. -/
  | queue (s : State) (rest : List Instr) : Change s { s with pending := rest }
  /-- What the ring port has handed on arrives or is taken (R156). -/
  | inHand (s : State) (rs : List (Byte × Request)) (ts : List (Byte × List Byte)) :
    Change s { s with requestsInHand := rs, ticketsInHand := ts }
  | crossing {s t : State} (c : CrossingChange s t) : Change s t
  /-- A frame joins the relay queue or leaves the transmitter (R157, R159). -/
  | relaying (s : State) (frames : List (List Byte)) (sending : Option (List Byte)) :
    Change s { s with ring := { s.ring with relay := frames, transmitter := sending } }
  /-- The count moves by an edge or an index mark (R2 to R8). -/
  | moved (s : State) (c : Nat) (d : Direction) (k : Nat) (count : c = s.tracker.count ∨ c < 6144)
    (hold : k = s.tracker.hold ∨ k ≤ 2) :
    Change s (s.setTracker { s.tracker with count := c, direction := d, hold := k })
  | saturated (s : State) : Change s (s.setTracker s.tracker.saturate)
  | reset (s : State) (pins : BitVec 5) : Change s (s.resetPart pins)
  | run (s : State) : Change s s.enterRun
  | halt (s : State) (cause : HaltCause) : Change s (s.enterHalt cause)
  | drain (s : State) : Change s { s with mode := .drain, haltCause := .none, lineStop := false }
  | sample (s : State) (raw : Int) :
    Change s { s with supply := Supply.judge s.now { s.supply with pm := manifoldPressure raw } }
  | low (s : State) : Change s s.enterLow
  | storeStarts (s : State) (op : StoreOp) : Change s (s.startStore op)
  | storeEnds (s : State) : Change s { s with store := s.store.complete }
  | latch (s : State) (mask : BitVec 24) : Change s (s.latchHeads mask)
  /-- A half is written to a slot's pending entry or taken from it; a half that is new there has passed its check (R40 to
  R46). -/
  | recipe (s : State) (p : SlotNo) (pend : Pending)
    (gas : ∀ g ∈ pend.gas, g ∈ (s.slot p).pending.gas ∨ gasValid g)
    (cam : ∀ c ∈ pend.cam, c ∈ (s.slot p).pending.cam ∨ camValid c s.tracker.aDis) : Change s (s.setPending p pend)
  /-- Flags are cleared and the mask is written; the fault limit stays (R140). -/
  | attention (s : State) (flags mask : BitVec 11) :
    Change s { s with report := { s.report with flags := flags, mask := mask } }
  | aDis (s : State) (v : Nat) (fits : s.aDisFits v = true) : Change s (s.setTracker { s.tracker with aDis := v })
  | faultLimit (s : State) (v : Nat) (fits : 1 ≤ v ∧ v ≤ 15) :
    Change s { s with report := { s.report with faultLimit := v } }
  | nq (s : State) (v : Nat) (fits : v = 4 ∨ v = 16) : Change s { s with nq := v }
  | levelPair (s : State) (v : Fin 4) : Change s { s with supply := { s.supply with levelPair := v } }
  | dipTolerance (s : State) (v : Nat) (fits : 5 ≤ v ∧ v ≤ 200) :
    Change s { s with supply := { s.supply with dipTolerance := v } }
  | valves (s : State) (v : Vector ValveClass 4) (fits : valvesValid v = true) : Change s { s with valves := v }
  | flow (s : State) (v : Vector FlowBand 8) (fits : flowValid v = true) :
    Change s { s with supply := { s.supply with flow := v } }

/-- One state comes of another by the changes that commands make. -/
abbrev State.Reaches (s t : State) : Prop := Relation.ReflTransGen Change s t

/-- What every change keeps is kept by all of them together. -/
theorem State.Reaches.keeps {P : State → Prop} (keep : ∀ s t, Change s t → P s → P t) {s t : State} (r : s.Reaches t)
    (start : P s) : P t := by
  induction r with
  | refl => exact start
  | tail _ change ih => exact keep _ _ change ih

theorem State.Crosses.reaches {s t : State} (c : s.Crosses t) : s.Reaches t :=
  Relation.ReflTransGen.mono (fun _ _ => Change.crossing) s t c

theorem State.elapse_reaches (s : State) (dt : Nat) : s.Reaches (s.elapse dt) := .single (.clock s dt)

/-! ## Mode control -/

theorem State.enterDrain_reaches (s : State) : s.Reaches s.enterDrain :=
  .trans (.single (.drain s)) (State.drainCheck_crosses _).reaches

theorem State.takeMode_reaches (target : ModeTarget) (s : State) : s.Reaches (s.takeMode target).1 := by
  rcases s.takeMode_cases target with h | ⟨h, -⟩ | ⟨h, -⟩ | ⟨h, -⟩ | ⟨h, -⟩
  · rw [h]
  · rw [h]
    exact .single (.run s)
  · rw [h]
    exact s.enterDrain_reaches
  · rw [h]
    exact .single (.halt s _)
  · rw [h]
    exact .single (.crossing (.standby s))

theorem State.takeHalt_reaches (cause : HaltCause) (s : State) : s.Reaches (s.takeHalt cause) := by
  rcases s.takeHalt_cases cause with ⟨h, -⟩ | ⟨h, -⟩
  · rw [h]
  · rw [h]
    exact .single (.halt s cause)

/-! ## The tracker -/

theorem crossOnto_reaches {c : Nat} (count : c < 6144) (lines : Lines) (order : List Arrival) (s : State) :
    s.Reaches (crossOnto c lines order s) :=
  .trans (.single (.moved s c s.tracker.direction s.tracker.hold (.inr count) (.inl rfl)))
    (deliverAll_crosses lines order _).reaches

theorem State.forwardEdge_reaches (lines : Lines) (order : List Arrival) (s : State) :
    s.Reaches (s.forwardEdge lines order) := by
  have count : (s.tracker.count + 1) % 6144 < 6144 := Nat.mod_lt _ (by decide)
  unfold State.forwardEdge
  dsimp only
  split
  · refine .single (.moved s _ _ _ (.inr count) ?_)
    split
    · exact .inr (by decide)
    · exact .inl rfl
  · exact .trans (.single (.moved s s.tracker.count .forward s.tracker.hold (.inl rfl) (.inl rfl)))
      (crossOnto_reaches count lines order _)

theorem State.reverseEdge_reaches (s : State) : s.Reaches s.reverseEdge :=
  .trans (.single (.moved s _ .reverse 0 (.inr (Nat.mod_lt _ (by decide))) (.inr (by decide))))
    (State.takeHalt_reaches _ _)

theorem State.indexMark_reaches (lines : Lines) (order6143 order0 : List Arrival) (s : State) :
    s.Reaches (s.indexMark lines order6143 order0) := by
  have zeroed : ∀ k, k = s.tracker.hold ∨ k ≤ 2 → s.Reaches (s.setTracker { s.tracker with count := 0, hold := k }) :=
    fun k hold => .single (.moved s 0 s.tracker.direction k (.inr (by decide)) hold)
  unfold State.indexMark
  dsimp only
  split
  · rfl
  · split
    · split
      · split
        · exact (crossOnto_reaches (by decide) lines order6143 s).trans (crossOnto_reaches (by decide) lines order0 _)
        · exact crossOnto_reaches (by decide) lines order0 s
      · exact zeroed _ (.inl rfl)
    · split
      · refine zeroed _ ?_
        split <;> omega
      · exact (zeroed 0 (.inr (by decide))).trans (State.takeHalt_reaches _ _)

/-! ## The ring port and the infeed unit -/

theorem State.offerRelay_reaches (f : List Byte) (s : State) : s.Reaches (s.offerRelay f) := by
  unfold State.offerRelay
  split
  · exact .trans (.single (.relaying s _ s.ring.transmitter)) (State.arbitrate_crosses _).reaches
  · exact (s.bumpPart_raise_crosses _ _).reaches

theorem State.endSending_reaches (s : State) : s.Reaches s.endSending :=
  .trans (.single (.relaying s s.ring.relay none)) (State.arbitrate_crosses _).reaches

theorem State.takeBroadcast_reaches (p : List Byte) (s : State) : s.Reaches (s.takeBroadcast p) := by
  unfold State.takeBroadcast
  split
  · exact s.takeMode_reaches _
  · rfl

theorem State.frameIn_reaches (bs : List Byte) (s : State) : s.Reaches (s.frameIn bs) := by
  unfold State.frameIn
  split
  · unfold State.route
    dsimp only
    split
    · exact .single (.inHand s s.requestsInHand _)
    · split
      · exact .single (.inHand s _ s.ticketsInHand)
      · split
        · exact (s.takeBroadcast_reaches _).trans (State.offerRelay_reaches _ _)
        · split
          · rfl
          · exact s.offerRelay_reaches bs
  · exact (s.bumpPart_raise_crosses _ _).reaches

theorem State.takeTicket_reaches (flags : Byte) (payload : List Byte) (s : State) :
    s.Reaches (s.takeTicket flags payload) := by
  unfold State.takeTicket
  split
  · exact (s.bumpPart_crosses _).reaches
  · unfold State.acceptTicket
    split
    · exact (s.bumpPart_raise_crosses _ _).reaches
    · split
      · exact .single (.crossing (.infeed s _))
      · exact (s.bumpPart_raise_crosses _ _).reaches

/-! ## The requests -/

theorem dealPending_reaches {p : SlotNo} {pend : Pending} {s : State}
    (gas : ∀ g ∈ pend.gas, g ∈ (s.slot p).pending.gas ∨ gasValid g)
    (cam : ∀ c ∈ pend.cam, c ∈ (s.slot p).pending.cam ∨ camValid c s.tracker.aDis) :
    s.Reaches (dealPending p pend s).state :=
  .single (.recipe s p pend gas cam)

/-- Writing a gas half puts that half and keeps the cam half (R43); an entry being removed holds none. -/
theorem Pending.withGas_halves (g : GasHalf) (pend : Pending) :
    (pend.withGas g).gas = some g ∧ (pend.withGas g).cam = pend.cam := by
  cases pend <;> exact ⟨rfl, rfl⟩

/-- Writing a cam half puts that half and keeps the gas half (R44). -/
theorem Pending.withCam_halves (c : CamHalf) (pend : Pending) :
    (pend.withCam c).cam = some c ∧ (pend.withCam c).gas = pend.gas := by
  cases pend <;> exact ⟨rfl, rfl⟩

theorem dealRecipeGas_reaches (product : Nat) (g : GasHalf) (s : State) : s.Reaches (dealRecipeGas product g s).state := by
  unfold dealRecipeGas
  split
  · rename_i p _
    split
    · rename_i valid
      obtain ⟨gas, cam⟩ := Pending.withGas_halves g (s.slot p).pending
      refine dealPending_reaches (fun x mem => .inr ?_) fun x mem => .inl (cam ▸ mem)
      obtain rfl : g = x := by simpa [gas] using mem
      exact valid
    · rfl
  · rfl

theorem dealRecipeCam_reaches (product : Nat) (c : CamHalf) (s : State) : s.Reaches (dealRecipeCam product c s).state := by
  unfold dealRecipeCam
  split
  · rename_i p _
    split
    · rename_i valid
      obtain ⟨cam, gas⟩ := Pending.withCam_halves c (s.slot p).pending
      refine dealPending_reaches (fun x mem => .inl (gas ▸ mem)) fun x mem => .inr ?_
      obtain rfl : c = x := by simpa [cam] using mem
      exact valid
    · rfl
  · rfl

theorem dealRecipeDrop_reaches (product : Nat) (s : State) : s.Reaches (dealRecipeDrop product s).state := by
  unfold dealRecipeDrop
  split
  · exact dealPending_reaches (by simp [Pending.gas]) (by simp [Pending.cam])
  · rfl

theorem dealRecipeClear_reaches (product : Nat) (s : State) : s.Reaches (dealRecipeClear product s).state := by
  unfold dealRecipeClear
  split
  · split
    · rfl
    · exact dealPending_reaches (by simp [Pending.gas]) (by simp [Pending.cam])
  · rfl

theorem dealRecipeRead_state (product source half : Nat) (s : State) :
    (dealRecipeRead product source half s).state = s := by
  unfold dealRecipeRead
  split
  · split
    · split <;> rfl
    · rfl
  · rfl

theorem dealHeadWrite_reaches (head : Nat) (resetCount : Bool) (f : HeadFields) (s : State) :
    s.Reaches (dealHeadWrite head resetCount f s).state := by
  unfold dealHeadWrite
  split
  · split
    · rfl
    · exact (State.onHead_crosses fun fits => fits.emptied rfl rfl rfl).reaches
  · rfl

theorem dealHeadRead_state (head : Nat) (s : State) : (dealHeadRead head s).state = s := by
  unfold dealHeadRead
  split <;> rfl

theorem dealHeadStore_reaches (head : Nat) (s : State) : s.Reaches (dealHeadStore head s).state := by
  unfold dealHeadStore
  split
  · split
    · rfl
    · split
      · rfl
      · exact .single (.storeStarts s _)
  · rfl

theorem dealProtect_reaches (marks : BitVec 4) (s : State) : s.Reaches (dealProtect marks s).state := by
  unfold dealProtect
  split
  · rfl
  · split
    · rfl
    · exact .single (.storeStarts s _)

theorem dealSnapshot_reaches (head : Nat) (s : State) : s.Reaches (dealSnapshot head s).state := by
  unfold dealSnapshot
  split
  · split
    · dsimp only
      exact (State.onHead_crosses fun fits => fits.emptied rfl rfl rfl).reaches
    · rfl
  · rfl

theorem State.clearScope_crosses (scope : Nat) (s : State) : s.Crosses (s.clearScope scope) := by
  unfold State.clearScope
  split
  · exact s.bumpHead_crosses _ _
  · split
    · exact s.bumpPart_crosses _
    · split
      · exact s.bumpPart_crosses _
      · split
        · exact s.bumpPart_crosses _
        · rfl

theorem dealCounters_reaches (scope : Nat) (clear : Bool) (s : State) : s.Reaches (dealCounters scope clear s).state := by
  unfold dealCounters
  split
  · cases clear
    · rfl
    · exact (s.clearScope_crosses scope).reaches
  · rfl

/-- A CONFIG-WRITE changes one group, if its values pass their check (R168). -/
theorem dealConfigWrite_reaches (v : ConfigValue) (s : State) : s.Reaches (dealConfigWrite v s).state := by
  cases v with
  | aDis v =>
    simp only [dealConfigWrite, dealADis]
    split
    · rfl
    · split
      · rename_i fits
        exact .single (.aDis s v fits)
      · rfl
  | faultLimit v =>
    simp only [dealConfigWrite, dealFaultLimit]
    split
    · rename_i fits
      exact .single (.faultLimit s v fits)
    · rfl
  | nq v =>
    simp only [dealConfigWrite, dealNq]
    split
    · rename_i fits
      exact .single (.nq s v fits)
    · rfl
  | levelPair v =>
    simp only [dealConfigWrite, dealLevelPair]
    split
    · exact .single (.levelPair s _)
    · rfl
  | dipTolerance v =>
    simp only [dealConfigWrite, dealDipTolerance]
    split
    · rename_i fits
      exact .single (.dipTolerance s v fits)
    · rfl
  | valves v =>
    simp only [dealConfigWrite, dealValves]
    split
    · rename_i fits
      exact .single (.valves s v fits)
    · rfl
  | flow v =>
    simp only [dealConfigWrite, dealFlow]
    split
    · rename_i fits
      exact .single (.flow s v fits)
    · rfl

theorem dealConfigRead_state (group : Nat) (s : State) : (dealConfigRead group s).state = s := by
  unfold dealConfigRead
  split <;> rfl

/-- A request reaches its owning block, which makes its changes (R162). -/
theorem dealRequest_reaches (pins : BitVec 5) (r : Request) (s : State) : s.Reaches (dealRequest pins r s).state := by
  cases r with
  | unknown | malformed | status => rfl
  | mode target => exact s.takeMode_reaches target
  | recipeGas p g => exact dealRecipeGas_reaches p g s
  | recipeCam p c => exact dealRecipeCam_reaches p c s
  | recipeDrop p => exact dealRecipeDrop_reaches p s
  | recipeClear p => exact dealRecipeClear_reaches p s
  | recipeRead p source half => rw [dealRequest, dealRecipeRead_state]
  | headWrite h rc f => exact dealHeadWrite_reaches h rc f s
  | headRead h => rw [dealRequest, dealHeadRead_state]
  | headStore h => exact dealHeadStore_reaches h s
  | protect m => exact dealProtect_reaches m s
  | latch m => exact .single (.latch s m)
  | snapshot h => exact dealSnapshot_reaches h s
  | counters scope clear => exact dealCounters_reaches scope clear s
  | attention clear mask => exact .single (.attention s _ _)
  | configWrite v => exact dealConfigWrite_reaches v s
  | configRead group => rw [dealRequest, dealConfigRead_state]
  | restart =>
    simp only [dealRequest, dealRestart]
    split
    · exact .single (.reset s pins)
    · rfl

theorem takeRequest_reaches (dt : Nat) (tag : Byte) (pins : BitVec 5) (r : Request) (s : State) :
    s.Reaches (takeRequest dt tag r (dealRequest pins r) s) := by
  refine (s.elapse_reaches dt).trans ?_
  unfold takeRequest
  dsimp only
  split
  · exact .trans (.single (.inHand _ _ _)) ((dealRequest_reaches pins r _).trans (State.offerReply_crosses _ _).reaches)
  · rfl

/-- Every request command is one taking of the request it brings (R162). -/
theorem exec_request {i : Instr} {tag : Byte} {r : Request} (brings : i.request = some (tag, r)) (s : State) :
    exec i s = .next (takeRequest i.elapsed tag r (dealRequest i.pinsRead r) s) := by
  cases i <;> cases brings <;> rfl

/-! ## Every command -/

/-- A command taken at a head changes that head alone. -/
theorem State.atHead_reaches {h : HeadNo} {f : Head → Head} {s : State} (dt : Nat)
    (readings : (s.head h).ReadingsFit → (f (s.head h)).ReadingsFit) : s.Reaches ((s.elapse dt).onHead h f) :=
  (s.elapse_reaches dt).trans (State.onHead_crosses (s := s.elapse dt) readings).reaches

/-- Every command completes, by changes of `Change`. -/
theorem exec_reaches (i : Instr) (s : State) : ∃ t, exec i s = .next t ∧ s.Reaches t := by
  rcases brings : i.request with _ | ⟨tag, r⟩
  · have waits : ∀ dt, s.Reaches (s.elapse dt) := s.elapse_reaches
    cases i with
    | reset dt pins => exact ⟨_, rfl, (waits dt).trans (.single (.reset _ pins))⟩
    | forwardEdge dt lines order => exact ⟨_, rfl, (waits dt).trans (State.forwardEdge_reaches lines order _)⟩
    | reverseEdge dt => exact ⟨_, rfl, (waits dt).trans (State.reverseEdge_reaches _)⟩
    | indexMark dt lines o1 o0 => exact ⟨_, rfl, (waits dt).trans (State.indexMark_reaches lines o1 o0 _)⟩
    | pitchTimerSaturation dt => exact ⟨_, rfl, (waits dt).trans (.single (.saturated _))⟩
    | canPresentEdge dt => exact ⟨_, rfl, (waits dt).trans (.single (.crossing (.infeed _ _)))⟩
    | bellPressureSample dt h raw => exact ⟨_, rfl, State.atHead_reaches dt fun fits => fits.bellSample raw⟩
    | crimpForceSample dt h newtons => exact ⟨_, rfl, State.atHead_reaches dt fun fits => fits.forceSample newtons⟩
    | manifoldSample dt raw => exact ⟨_, rfl, (waits dt).trans (.single (.sample _ raw))⟩
    | overpressureTrip dt h =>
      exact ⟨_, rfl, State.atHead_reaches dt fun fits => fits.takeTrip.endGassing _ _⟩
    | sealLevelReport dt h => exact ⟨_, rfl, State.atHead_reaches dt fun fits => fits.takeReport.onSealReport⟩
    | commandTimerExpiry dt h => exact ⟨_, rfl, State.atHead_reaches dt fun fits => fits.onCommandExpiry⟩
    | sealCheckTimerExpiry dt h => exact ⟨_, rfl, State.atHead_reaches dt fun fits => fits.onSealExpiry _⟩
    | dwellTimerExpiry dt h gauge => exact ⟨_, rfl, State.atHead_reaches dt fun fits => fits.onDwellExpiry gauge⟩
    | ventPulseTimerExpiry dt h => exact ⟨_, rfl, State.atHead_reaches dt fun fits => fits.onVentExpiry _⟩
    | resetVentTimerExpiry dt h => exact ⟨_, rfl, State.atHead_reaches dt fun fits => fits.onResetVentExpiry⟩
    | dipTimerExpiry dt =>
      simp only [exec, execDipTimerExpiry]
      split
      · exact ⟨_, rfl, (waits dt).trans (.single (.low _))⟩
      · exact ⟨_, rfl, waits dt⟩
    | lowEvent dt h => exact ⟨_, rfl, State.atHead_reaches dt fun fits => fits.takeLow.endGassing _ _⟩
    | headHalt dt h => exact ⟨_, rfl, State.atHead_reaches dt fun fits => fits.takeHaltMessage.onHalt _⟩
    | trackerHaltRequest dt cause => exact ⟨_, rfl, (waits dt).trans (State.takeHalt_reaches _ _)⟩
    | storeOperationTimerExpiry dt =>
      simp only [exec, execStoreOperationTimerExpiry]
      split
      · exact ⟨_, rfl, (waits dt).trans (.trans (.single (.storeEnds _)) (State.raise_crosses _ _).reaches)⟩
      · exact ⟨_, rfl, waits dt⟩
    | ringInFrame dt bytes => exact ⟨_, rfl, (waits dt).trans (State.frameIn_reaches bytes _)⟩
    | infeedTicket dt flags payload =>
      simp only [exec, execInfeedTicket]
      split
      · exact ⟨_, rfl, (waits dt).trans (.trans (.single (.inHand _ _ _)) (State.takeTicket_reaches flags payload _))⟩
      · exact ⟨_, rfl, waits dt⟩
    | transmitComplete dt =>
      simp only [exec, execTransmitComplete]
      split
      · exact ⟨_, rfl, (waits dt).trans (State.endSending_reaches _)⟩
      · exact ⟨_, rfl, waits dt⟩
    | _ => cases brings
  · exact ⟨_, exec_request brings s, takeRequest_reaches _ tag _ r s⟩

/-- What every change keeps is kept by every step. -/
theorem step_keeps {P : State → Prop} (keep : ∀ s t, Change s t → P s → P t) {s t : State} (taken : step s = .next t)
    (start : P s) : P t := by
  unfold step at taken
  split at taken
  · cases taken
    exact start
  · rename_i c rest _
    obtain ⟨u, run, reaches⟩ := exec_reaches c { s with pending := rest }
    obtain rfl : u = t := by
      rw [run] at taken
      exact Host.Outcome.next.inj taken
    exact reaches.keeps keep (keep _ _ (.queue s rest) start)

end Sys2Proof.Machine
end

section
/-! SUPPORT. The ranges of the units: what each change of a command does to each of them, and the checks of the line
configuration read as the ranges they guard. -/

namespace Sys2Proof.Machine

/-! ## The checks of the line configuration -/

/-- The check of a valve class table is the range of its lags (R62). -/
theorem valvesValid_iff (v : Vector ValveClass 4) : valvesValid v = true ↔ ValvesFit v := by
  simp only [valvesValid, List.all_eq_true, Vector.mem_toList_iff, Bool.and_eq_true, decide_eq_true_eq]
  constructor
  · exact fun all k => all _ (Vector.getElem_mem k.isLt)
  · intro all c mem
    obtain ⟨i, hi, rfl⟩ := Vector.getElem_of_mem mem
    exact all ⟨i, hi⟩

/-- Floors that rise from band to band rise between any two bands (R123). -/
theorem floorsRise_iff (l : List FlowBand) : floorsRise l = true ↔ l.Pairwise fun a b => a.floor < b.floor := by
  induction l using floorsRise.induct with
  | case1 a b rest ih =>
    rw [floorsRise, Bool.and_eq_true, decide_eq_true_eq, ih, List.pairwise_cons (a := a)]
    refine ⟨fun ⟨low, rise⟩ => ⟨fun x mem => ?_, rise⟩, fun ⟨low, rise⟩ => ⟨low b (by simp), rise⟩⟩
    rcases List.mem_cons.1 mem with rfl | later
    · exact low
    · exact low.trans (List.rel_of_pairwise_cons rise later)
  | case2 l short =>
    cases l with
    | nil => simp [floorsRise]
    | cons a l =>
      cases l with
      | nil => simp [floorsRise]
      | cons b rest => exact absurd rfl (short a b rest)

/-- The check of a flow table is the range of its bands, their floors rising strictly (R123). -/
theorem flowValid_iff (v : Vector FlowBand 8) : flowValid v = true ↔ FlowFits v := by
  simp only [flowValid, Bool.and_eq_true, List.all_eq_true, Vector.mem_toList_iff, decide_eq_true_eq, floorsRise_iff,
    List.pairwise_iff_getElem, and_assoc]
  refine and_congr ⟨fun all k => all _ (Vector.getElem_mem k.isLt), fun all b mem => ?_⟩
    ⟨fun rise j k lt => ?_, fun rise i j hi hj lt => ?_⟩
  · obtain ⟨i, hi, rfl⟩ := Vector.getElem_of_mem mem
    exact all ⟨i, hi⟩
  · simpa using rise j k (by simp) (by simp) lt
  · simpa using rise ⟨i, by simpa using hi⟩ ⟨j, by simpa using hj⟩ lt

/-- A discharge angle fits when it is in its range and above every live and every pending lift angle (R16). -/
theorem State.aDisFits_iff (v : Nat) (s : State) :
    s.aDisFits v = true ↔ 4096 ≤ v ∧ v ≤ 6143 ∧ ∀ p : SlotNo, (∀ r ∈ (s.slot p).live, r.cam.lift < v)
      ∧ ∀ c ∈ (s.slot p).pending.cam, c.lift < v := by
  have slots : (∀ sl ∈ s.recipes, ∀ lift ∈ sl.lifts, lift < v) ↔ ∀ p : SlotNo, ∀ lift ∈ (s.slot p).lifts, lift < v := by
    constructor
    · exact fun all p => all _ (Vector.getElem_mem p.isLt)
    · intro all sl mem
      obtain ⟨i, hi, rfl⟩ := Vector.getElem_of_mem mem
      exact all ⟨i, hi⟩
  have lifts : ∀ sl : Slot, (∀ lift ∈ sl.lifts, lift < v)
      ↔ (∀ r ∈ sl.live, r.cam.lift < v) ∧ ∀ c ∈ sl.pending.cam, c.lift < v := by
    intro sl
    simp [Slot.lifts, or_imp, forall_and]
  simp only [State.aDisFits, Bool.and_eq_true, decide_eq_true_eq, List.all_eq_true, Vector.mem_toList_iff, slots,
    and_assoc]
  simp only [lifts]

/-! ## The changes of every head -/

/-- The entry to LOW touches the supply, the flags and the messages in flight (R119). -/
theorem State.enterLow_frame (s : State) :
    ∃ hs, s.enterLow = { s with
      supply := { s.supply with state := .low, dipTimer := none }, heads := hs
      report := { s.report with flags := s.report.flags ||| 0x080 } } :=
  ⟨s.enterLow.heads, by simp only [State.enterLow, State.onHeads, State.raise, AttentionFlag.mark]⟩

/-- A LATCH touches the heads' snapshot slots alone (R165). -/
theorem State.latchHeads_frame (mask : BitVec 24) (s : State) : ∃ hs, s.latchHeads mask = { s with heads := hs } :=
  ⟨_, rfl⟩

/-! ## The tracker -/

/-- The pitch timer saturates P while it runs, and else does nothing (R14). -/
theorem Tracker.saturate_cases (t : Tracker) :
    t.saturate = t ∨ t.saturate = { t with pitch := Config.pitchSaturation, pitchTimer := .saturated } := by
  unfold Tracker.saturate
  split
  · exact .inr rfl
  · exact .inl rfl
  · exact .inl rfl

/-- A pitch mark keeps P and the marks seen in their ranges, and makes P valid at the second mark (R13). -/
theorem Tracker.pitchMark_fits {now : Nat} {t : Tracker} (pitch : t.pitch ≤ Config.pitchSaturation)
    (marks : t.marksSeen ≤ 2) (valid : t.pValid = decide (t.marksSeen = 2)) :
    (t.pitchMark now).pitch ≤ Config.pitchSaturation ∧ (t.pitchMark now).marksSeen ≤ 2
      ∧ (t.pitchMark now).pValid = decide ((t.pitchMark now).marksSeen = 2) := by
  refine ⟨?_, ?_, ?_⟩
  · simp only [Tracker.pitchMark, PitchTimer.measure]
    split <;> omega
  · simp only [Tracker.pitchMark]
    split <;> omega
  · have seen : t.marksSeen = 0 ∨ t.marksSeen = 1 ∨ t.marksSeen = 2 := by omega
    rcases seen with m | m | m <;> simp [Tracker.pitchMark, m, valid]

theorem State.reset_trackerFits : State.reset.TrackerFits := by decide

theorem Change.keeps_trackerFits (s t : State) (change : Change s t) (fits : s.TrackerFits) : t.TrackerFits := by
  obtain ⟨count, hold, pitch, marks, valid⟩ := fits
  cases change with
  | crossing c =>
    cases c with
    | pitchMark => exact ⟨count, hold, Tracker.pitchMark_fits pitch marks valid⟩
    | _ => exact ⟨count, hold, pitch, marks, valid⟩
  | moved c d k countMoved holdMoved => exact ⟨by simp; omega, by simp; omega, pitch, marks, valid⟩
  | saturated =>
    rcases s.tracker.saturate_cases with h | h
    · exact h.symm ▸ ⟨count, hold, pitch, marks, valid⟩
    · exact h.symm ▸ ⟨count, hold, le_rfl, marks, valid⟩
  | reset => exact State.reset_trackerFits
  | run => exact ⟨count, hold, pitch, by simp, rfl⟩
  | _ => exact ⟨count, hold, pitch, marks, valid⟩

/-! ## The supply and the store -/

/-- A judged sample starts the dip timer with DIP and stops it with DIP (R117, R118, R120). -/
theorem Supply.judge_timer {now : Nat} {u : Supply} (timer : u.dipTimer.isSome = decide (u.state = .dip)) :
    (u.judge now).dipTimer.isSome = decide ((u.judge now).state = .dip) := by
  cases state : u.state with
  | normal =>
    simp only [Supply.judge, state]
    split
    · rfl
    · exact timer
  | dip =>
    simp only [Supply.judge, state]
    split
    · rfl
    · exact timer
  | low =>
    simp only [Supply.judge, state]
    split
    · simpa [state] using timer
    · exact timer

theorem Change.keeps_supplyFits (s t : State) (change : Change s t) (fits : s.SupplyFits) : t.SupplyFits := by
  cases change with
  | crossing c => cases c <;> exact fits
  | sample raw =>
    obtain ⟨timer, -⟩ := fits
    refine ⟨Supply.judge_timer timer, ?_⟩
    obtain ⟨st, dip, h⟩ := Supply.judge_frame s.now { s.supply with pm := manifoldPressure raw }
    simp only [h]
    exact manifoldPressure_le raw
  | low => exact ⟨rfl, fits.2⟩
  | reset => exact ⟨rfl, Nat.zero_le 1500⟩
  | _ => exact fits

/-- A completed operation leaves no timer running, if the timer ran with it (R173). -/
theorem Store.complete_timer {st : Store} (fits : st.timer.isSome = st.op.isSome) : st.complete.timer = none := by
  unfold Store.complete
  split
  · rfl
  · rfl
  · rename_i idle
    simpa [idle] using fits

theorem Change.keeps_storeFits (s t : State) (change : Change s t) (fits : s.StoreFits) : t.StoreFits := by
  cases change with
  | crossing c => cases c <;> exact fits
  | storeStarts => rfl
  | storeEnds => simp [State.StoreFits, Store.complete_timer fits]
  | reset => simp [State.StoreFits, State.resetPart]
  | _ => exact fits

/-! ## The own address and the line configuration -/

theorem Change.keeps_addressFits (s t : State) (change : Change s t) (fits : s.AddressFits) : t.AddressFits := by
  cases change with
  | crossing c =>
    cases c with
    | ring r pins own =>
      change r.own = if r.pins = 0 ∨ r.pins = 31 then none else some r.pins.toNat
      rw [own, pins, fits]
    | _ => exact fits
  | reset => rfl
  | _ => exact fits

theorem valveDefaults_fit : ValvesFit Config.valveDefaults := by decide

theorem flowDefaults_fit : FlowFits Config.flowDefaults := by decide

theorem State.reset_lineConfigurationFits : State.reset.LineConfigurationFits :=
  ⟨by decide, by decide, .inr rfl, by decide, valveDefaults_fit, flowDefaults_fit⟩

/-- The ranges of the line configuration are those of its six groups. -/
theorem State.LineConfigurationFits.same {s t : State} (fits : s.LineConfigurationFits)
    (aDis : t.tracker.aDis = s.tracker.aDis) (limit : t.report.faultLimit = s.report.faultLimit) (nq : t.nq = s.nq)
    (tolerance : t.supply.dipTolerance = s.supply.dipTolerance) (valves : t.valves = s.valves)
    (flow : t.supply.flow = s.supply.flow) : t.LineConfigurationFits := by
  unfold State.LineConfigurationFits at fits ⊢
  rwa [aDis, limit, nq, tolerance, valves, flow]

theorem CrossingChange.keeps_lineConfigurationFits {s t : State} (change : CrossingChange s t)
    (fits : s.LineConfigurationFits) : t.LineConfigurationFits :=
  have kept := change.frame
  fits.same kept.aDis kept.faultLimit kept.nq (congrArg _ kept.supply) kept.valves (congrArg _ kept.supply)

theorem Change.keeps_lineConfigurationFits (s t : State) (change : Change s t) (fits : s.LineConfigurationFits) :
    t.LineConfigurationFits := by
  obtain ⟨aDis, limit, nq, tolerance, valves, flow⟩ := id fits
  cases change with
  | crossing c => exact c.keeps_lineConfigurationFits fits
  | reset => exact State.reset_lineConfigurationFits.same rfl rfl rfl rfl rfl rfl
  | saturated =>
    rcases s.tracker.saturate_cases with h | h <;> rw [h] <;> exact fits.same rfl rfl rfl rfl rfl rfl
  | sample raw =>
    obtain ⟨st, dip, h⟩ := Supply.judge_frame s.now { s.supply with pm := manifoldPressure raw }
    rw [h]
    exact fits.same rfl rfl rfl rfl rfl rfl
  | halt cause =>
    exact fits.same (by simp) (by simp) (by simp) (by simp) (by simp) (by simp)
  | low =>
    obtain ⟨hs, h⟩ := s.enterLow_frame
    rw [h]
    exact fits.same rfl rfl rfl rfl rfl rfl
  | latch mask =>
    obtain ⟨hs, h⟩ := s.latchHeads_frame mask
    rw [h]
    exact fits.same rfl rfl rfl rfl rfl rfl
  | aDis v above =>
    obtain ⟨low, high, -⟩ := (s.aDisFits_iff v).1 above
    exact ⟨⟨low, high⟩, limit, nq, tolerance, valves, flow⟩
  | faultLimit v inRange => exact ⟨aDis, inRange, nq, tolerance, valves, flow⟩
  | nq v inRange => exact ⟨aDis, limit, inRange, tolerance, valves, flow⟩
  | dipTolerance v inRange => exact ⟨aDis, limit, nq, inRange, valves, flow⟩
  | valves v valid => exact ⟨aDis, limit, nq, tolerance, (valvesValid_iff v).1 valid, flow⟩
  | flow v valid => exact ⟨aDis, limit, nq, tolerance, valves, (flowValid_iff v).1 valid⟩
  | _ => exact fits.same rfl rfl rfl rfl rfl rfl

/-! ## The readings -/

/-- A LATCH fills an empty slot with the reading and the peak of the moment (R107, R165). -/
theorem State.latchHeads_readingsFit {mask : BitVec 24} {s : State} (fits : s.ReadingsFit) :
    (s.latchHeads mask).ReadingsFit := by
  intro h
  obtain ⟨reading, ctx, snapshot⟩ := fits h
  simp only [State.latchHeads, State.onHeads_head]
  split
  · refine ⟨reading, ctx, fun x taken => ?_⟩
    cases taken
    refine ⟨reading, fun p peak => ?_⟩
    obtain ⟨c, held, peak⟩ := Option.bind_eq_some_iff.1 peak
    exact (ctx c held).1 p peak
  · exact ⟨reading, ctx, snapshot⟩

@[simp] theorem State.enterLow_head (s : State) (h : HeadNo) : s.enterLow.head h = (s.head h).sendLow := by
  simp [State.enterLow, State.head, State.raise, State.onHeads]

@[simp] theorem State.resetPart_head (s : State) (pins : BitVec 5) (h : HeadNo) :
    (s.resetPart pins).head h
      = Head.afterReset (s.store.settle.entries[h].getD HeadEntry.blank) (s.now + Config.resetVentTime) := by
  simp [State.resetPart, State.head]

theorem Head.afterReset_readingsFit (entry : HeadEntry) (ends : Nat) : (Head.afterReset entry ends).ReadingsFit := by
  refine ⟨Nat.zero_le 1500, ?_, ?_⟩ <;> simp [Head.afterReset]

/-- What leaves every head leaves the readings fit. -/
theorem State.ReadingsFit.same {s t : State} (fits : s.ReadingsFit) (heads : ∀ h : HeadNo, t.head h = s.head h) :
    t.ReadingsFit := by
  intro h
  rw [heads]
  exact fits h

theorem CrossingChange.keeps_readingsFit {s t : State} (change : CrossingChange s t) (fits : s.ReadingsFit) :
    t.ReadingsFit := by
  cases change with
  | head h hd readings => exact State.forall_head_setHead (Q := Head.ReadingsFit) fits h (readings (fits h))
  | promote => exact fits.same s.promoteAll_head
  | standby => exact fits.same s.enterStandby_head
  | _ => exact fits

theorem Change.keeps_readingsFit (s t : State) (change : Change s t) (fits : s.ReadingsFit) : t.ReadingsFit := by
  cases change with
  | crossing c => exact c.keeps_readingsFit fits
  | reset pins =>
    intro h
    rw [State.resetPart_head]
    exact Head.afterReset_readingsFit _ _
  | halt cause =>
    intro h
    rw [State.enterHalt_head]
    exact Head.ReadingsFit.same (fits h) rfl rfl rfl
  | low =>
    intro h
    rw [State.enterLow_head]
    exact Head.ReadingsFit.same (fits h) rfl rfl rfl
  | latch mask => exact State.latchHeads_readingsFit fits
  | _ => exact fits

/-! ## The recipe table -/

/-- A slot that holds no half is valid. -/
theorem Slot.fits_empty (aDis : Nat) {version : Nat} (byte : version < 256) : Slot.Fits aDis ⟨none, .none, version⟩ :=
  ⟨nofun, nofun, nofun, nofun, byte⟩

/-- A promotion puts the pending halves, which are valid, in force (R47). -/
theorem Slot.Fits.promote {aDis : Nat} {sl : Slot} (fits : sl.Fits aDis) : sl.promote.Fits aDis := by
  obtain ⟨-, -, gas, cam, -⟩ := id fits
  have version : (sl.version + 1) % 256 < 256 := Nat.mod_lt _ (by decide)
  rcases sl.promote_cases with ⟨g, c, pending, h⟩ | ⟨-, h⟩ | ⟨-, h⟩
  · rw [h]
    rw [pending] at gas cam
    refine ⟨?_, ?_, nofun, nofun, version⟩
    · rintro r ⟨⟩
      exact gas g rfl
    · rintro r ⟨⟩
      exact cam c rfl
  · rw [h]
    exact Slot.fits_empty aDis version
  · rwa [h]

/-- A promotion of every slot keeps the table valid, whatever mode is entered with it (R47, R49). -/
theorem State.RecipesFit.promoted {s t : State} (fits : s.RecipesFit) (aDis : t.tracker.aDis = s.tracker.aDis)
    (slots : ∀ p : SlotNo, t.slot p = (s.slot p).promote) : t.RecipesFit := by
  obtain ⟨range, valid, -⟩ := fits
  refine ⟨aDis ▸ range, fun p => ?_, fun _ p => ?_⟩
  · rw [slots, aDis]
    exact (valid p).promote
  · rw [slots, Slot.promote_waits]

/-- What leaves the slots keeps the table valid, if it leaves the mode or enters one that lets slots wait (R49). -/
theorem State.RecipesFit.same {s t : State} (fits : s.RecipesFit) (aDis : t.tracker.aDis = s.tracker.aDis)
    (slots : ∀ p : SlotNo, t.slot p = s.slot p) (mode : t.mode = s.mode ∨ t.mode = .run ∨ t.mode = .drain) :
    t.RecipesFit := by
  obtain ⟨range, valid, still⟩ := fits
  refine ⟨aDis ▸ range, fun p => ?_, fun stands p => ?_⟩
  · rw [slots, aDis]
    exact valid p
  · rw [slots]
    rcases mode with m | m | m
    · exact still (m ▸ stands) p
    · simp [m] at stands
    · simp [m] at stands

/-- A pending entry whose halves have passed their checks keeps the table valid, promoted at once in STANDBY and HALT (R39,
R49). -/
theorem State.RecipesFit.setPending {s : State} (fits : s.RecipesFit) {p : SlotNo} {pend : Pending}
    (gas : ∀ g ∈ pend.gas, g ∈ (s.slot p).pending.gas ∨ gasValid g)
    (cam : ∀ c ∈ pend.cam, c ∈ (s.slot p).pending.cam ∨ camValid c s.tracker.aDis) : (s.setPending p pend).RecipesFit := by
  obtain ⟨range, valid, still⟩ := fits
  obtain ⟨liveGas, liveCam, oldGas, oldCam, version⟩ := valid p
  have put : Slot.Fits s.tracker.aDis { s.slot p with pending := pend } :=
    ⟨liveGas, liveCam, fun g mem => (gas g mem).elim (oldGas g) id, fun c mem => (cam c mem).elim (oldCam c) id, version⟩
  unfold State.setPending
  refine ⟨range, fun q => ?_, fun mode q => ?_⟩
  · by_cases same : q = p
    · subst same
      rw [State.setSlot_slot, State.setSlot_tracker]
      split
      · exact put.promote
      · exact put
    · rw [State.setSlot_slot_ne _ _ same]
      exact valid q
  · rw [State.setSlot_mode] at mode
    by_cases same : q = p
    · subst same
      rw [State.setSlot_slot, if_pos mode, Slot.promote_waits]
    · rw [State.setSlot_slot_ne _ _ same]
      exact still mode q

/-- A discharge angle above every lift angle keeps every cam half valid (R16). -/
theorem camValid_of_lift_lt {c : CamHalf} {old new : Nat} (valid : camValid c old) (lift : c.lift < new) : camValid c new := by
  obtain ⟨⟨a, b, d, e, f, g, -⟩, rest⟩ := valid
  exact ⟨⟨a, b, d, e, f, g, lift⟩, rest⟩

theorem State.RecipesFit.setADis {s : State} (fits : s.RecipesFit) {v : Nat} (above : s.aDisFits v = true) :
    (s.setTracker { s.tracker with aDis := v }).RecipesFit := by
  obtain ⟨-, valid, still⟩ := fits
  obtain ⟨low, high, lifts⟩ := (s.aDisFits_iff v).1 above
  refine ⟨⟨low, high⟩, fun p => ?_, still⟩
  obtain ⟨liveGas, liveCam, gas, cam, version⟩ := valid p
  obtain ⟨liveLift, pendingLift⟩ := lifts p
  exact ⟨liveGas, fun r live => camValid_of_lift_lt (liveCam r live) (liveLift r live), gas,
    fun c held => camValid_of_lift_lt (cam c held) (pendingLift c held), version⟩

@[simp] theorem State.resetPart_slot (s : State) (pins : BitVec 5) (p : SlotNo) :
    (s.resetPart pins).slot p = { live := none, pending := .none, version := 0 } := by
  simp [State.resetPart, State.reset, State.slot]

theorem CrossingChange.keeps_recipesFit {s t : State} (change : CrossingChange s t) (fits : s.RecipesFit) :
    t.RecipesFit := by
  cases change with
  | promote => exact fits.promoted rfl s.promoteAll_slot
  | standby => exact fits.promoted rfl s.enterStandby_slot
  | _ => exact fits.same rfl (fun _ => rfl) (.inl rfl)

theorem Change.keeps_recipesFit (s t : State) (change : Change s t) (fits : s.RecipesFit) : t.RecipesFit := by
  cases change with
  | crossing c => exact c.keeps_recipesFit fits
  | saturated =>
    rcases s.tracker.saturate_cases with h | h <;> rw [h] <;> exact fits.same rfl (fun _ => rfl) (.inl rfl)
  | reset pins =>
    refine ⟨(by decide : 4096 ≤ 5632 ∧ 5632 ≤ 6143), fun p => ?_, fun _ p => ?_⟩
    · rw [State.resetPart_slot]
      exact Slot.fits_empty _ (by decide)
    · rw [State.resetPart_slot]
      rfl
  | run => exact fits.same rfl (fun _ => rfl) (.inr (.inl rfl))
  | halt cause => exact fits.promoted rfl (s.enterHalt_slot cause)
  | drain => exact fits.same rfl (fun _ => rfl) (.inr (.inr rfl))
  | low =>
    obtain ⟨hs, h⟩ := s.enterLow_frame
    rw [h]
    exact fits.same rfl (fun _ => rfl) (.inl rfl)
  | latch mask =>
    obtain ⟨hs, h⟩ := s.latchHeads_frame mask
    rw [h]
    exact fits.same rfl (fun _ => rfl) (.inl rfl)
  | recipe p pend gas cam => exact fits.setPending gas cam
  | aDis v above => exact fits.setADis above
  | _ => exact fits.same rfl (fun _ => rfl) (.inl rfl)

end Sys2Proof.Machine

namespace Sys2Proof.Proofs
open Sys2Proof.Machine

/-- Settles O58: no change that a step is made of takes a unit out of its range. -/
theorem everyStepKeepsTheUnitsInTheirRanges : Obligations.EveryStepKeepsTheUnitsInTheirRanges := by
  unfold Obligations.EveryStepKeepsTheUnitsInTheirRanges
  intro s t taken
  exact ⟨step_keeps Change.keeps_trackerFits taken, step_keeps Change.keeps_supplyFits taken,
    step_keeps Change.keeps_storeFits taken, step_keeps Change.keeps_addressFits taken,
    step_keeps Change.keeps_lineConfigurationFits taken, step_keeps Change.keeps_readingsFit taken⟩

/-- Settles O54: no change that a step is made of leaves an invalid half, or a slot waiting in STANDBY and HALT. -/
theorem everyStepKeepsTheRecipesValid : Obligations.EveryStepKeepsTheRecipesValid := by
  unfold Obligations.EveryStepKeepsTheRecipesValid
  intro s t fits taken
  exact step_keeps Change.keeps_recipesFit taken fits

end Sys2Proof.Proofs
end

section
/-! SUPPORT. The crossing of the turret tracker: the order of its events, which phase event an angle gives, what one event leaves
of the other heads, and the whole crossing where at most one event acts (section 1.3, R9 to R12). -/

namespace Sys2Proof.Machine

/-! ## The relative angle -/

/-- The relative angle lies in 0..6143, counts from the head's own pitch mark, and is 0 exactly there (R9). -/
theorem relativeAngle_spec {c : Nat} (h : HeadNo) (count : c < 6144) :
    relativeAngle c h < 6144 ∧ (relativeAngle c h + 256 * h.val) % 6144 = c
      ∧ (relativeAngle c h = 0 ↔ c = 256 * h.val) := by
  have head := h.isLt
  unfold relativeAngle
  omega

/-! ## The order of the events -/

theorem mem_allArrivals (a : Arrival) : a ∈ allArrivals := by
  cases a <;> simp [allArrivals]

theorem nodup_allArrivals : allArrivals.Nodup := by
  have phases : ((List.finRange 24).map Arrival.phase).Nodup :=
    (List.nodup_finRange 24).map fun _ _ same => Arrival.phase.inj same
  simpa [allArrivals] using phases

@[simp] theorem mem_firsts {a : Arrival} {as : List Arrival} : a ∈ firsts as ↔ a ∈ as := by
  induction as with
  | nil => rfl
  | cons b bs ih =>
    by_cases same : a = b <;> simp [firsts, ih, same]

theorem nodup_firsts (as : List Arrival) : (firsts as).Nodup := by
  induction as with
  | nil => exact .nil
  | cons a as ih => exact List.nodup_cons.2 ⟨by simp, ih.filter _⟩

/-- Events that are named once keep their order and come first; of the others, those that are not named follow. -/
theorem firsts_append {as : List Arrival} (once : as.Nodup) (bs : List Arrival) :
    firsts (as ++ bs) = as ++ (firsts bs).filter fun b => decide (b ∉ as) := by
  induction as with
  | nil => simp
  | cons a as ih =>
    obtain ⟨new, once⟩ := List.nodup_cons.1 once
    have others : ∀ b ∈ as, ¬ b = a := fun b mem same => new (same ▸ mem)
    simpa [firsts, ih once, List.filter_append, List.filter_filter] using others

/-- The schedule holds every event once, those that the sender names once first in its order (R11). -/
theorem schedule_spec (order : List Arrival) :
    (schedule order).Nodup ∧ (∀ a : Arrival, a ∈ schedule order) ∧ (order.Nodup → order <+: schedule order) := by
  refine ⟨nodup_firsts _, fun a => ?_, fun once => ?_⟩
  · exact mem_firsts.2 (List.mem_append_right _ (mem_allArrivals a))
  · unfold schedule
    rw [firsts_append once]
    exact List.prefix_append _ _

/-- Where the sender names no order, the pitch mark comes first, then the heads by their numbers. -/
theorem schedule_nil : schedule [] = allArrivals := by
  simpa [schedule, firsts] using firsts_append nodup_allArrivals []

/-- Every event stands in the schedule at one place. -/
theorem schedule_split (order : List Arrival) (a : Arrival) :
    ∃ before after, schedule order = before ++ a :: after ∧ a ∉ before ∧ a ∉ after := by
  obtain ⟨once, all, -⟩ := schedule_spec order
  obtain ⟨before, after, split⟩ := List.append_of_mem (all a)
  rw [split] at once
  obtain ⟨-, rest, apart⟩ := List.nodup_append.1 once
  exact ⟨before, after, split, fun mem => apart a mem a (by simp) rfl, (List.nodup_cons.1 rest).1⟩

/-! ## The phase event at an angle -/

/-- An angle gives no event, or one whose angle it is (R10). -/
theorem phaseAt_cases (aDis : Nat) (cam : CamHalf) (a : Nat) :
    (phaseAt aDis cam a = none ∧ ∀ e : PhaseEvent, a ≠ e.angle aDis cam)
      ∨ ∃ e : PhaseEvent, phaseAt aDis cam a = some e ∧ a = e.angle aDis cam := by
  unfold phaseAt
  split
  · exact .inr ⟨.sealing, rfl, ‹_›⟩
  split
  · exact .inr ⟨.gasStart, rfl, ‹_›⟩
  split
  · exact .inr ⟨.gasEnd, rfl, ‹_›⟩
  split
  · exact .inr ⟨.crimp, rfl, ‹_›⟩
  split
  · exact .inr ⟨.vent, rfl, ‹_›⟩
  split
  · exact .inr ⟨.lift, rfl, ‹_›⟩
  split
  · exact .inr ⟨.discharge, rfl, ‹_›⟩
  · exact .inl ⟨rfl, fun e => by cases e <;> assumption⟩

/-- A head gets no event where its context, if it holds one, has none at its angle. -/
theorem State.phaseFor_none {h : HeadNo} {s : State}
    (none : ∀ x ∈ (s.head h).ctx, ∀ e : PhaseEvent, relativeAngle s.tracker.count h ≠ e.angle s.tracker.aDis x.cam) :
    s.phaseFor h = .none := by
  unfold State.phaseFor
  cases held : (s.head h).ctx with
  | none => rfl
  | some x =>
    rcases phaseAt_cases s.tracker.aDis x.cam (relativeAngle s.tracker.count h) with ⟨no, -⟩ | ⟨e, -, hit⟩
    · exact no
    · exact absurd hit (none x held e)

/-- A head gets the one event that its context has at its angle. -/
theorem State.phaseFor_some {h : HeadNo} {s : State} {x : Context} {e : PhaseEvent} (held : (s.head h).ctx = some x)
    (hit : relativeAngle s.tracker.count h = e.angle s.tracker.aDis x.cam)
    (only : ∀ f : PhaseEvent, relativeAngle s.tracker.count h = f.angle s.tracker.aDis x.cam → f = e) :
    s.phaseFor h = some e := by
  unfold State.phaseFor
  rw [held]
  rcases phaseAt_cases s.tracker.aDis x.cam (relativeAngle s.tracker.count h) with ⟨-, no⟩ | ⟨f, found, hits⟩
  · exact absurd hit (no e)
  · rw [← only f hits]
    exact found

/-- An angle that is none of the seven is the angle of no event. -/
theorem PhaseEvent.angle_ne_of_not_mem {a aDis : Nat} {cam : CamHalf}
    (none : a ∉ [cam.sealAngle, cam.gasStart, cam.gasEnd, cam.crimp, cam.vent, cam.lift, aDis]) (e : PhaseEvent) :
    a ≠ e.angle aDis cam := by
  rintro rfl
  cases e <;> simp [PhaseEvent.angle] at none

/-- No phase event of a valid recipe is at angle 0, where the head's pitch mark is (R41). -/
theorem PhaseEvent.angle_pos {aDis : Nat} {cam : CamHalf} (valid : camValid cam aDis) (e : PhaseEvent) :
    0 < e.angle aDis cam := by
  obtain ⟨angles, -⟩ := valid
  cases e <;> simp only [PhaseEvent.angle] <;> omega

/-! ## One event of a crossing -/

theorem deliver_phase_none {lines : Lines} {s : State} {h : HeadNo} (none : s.phaseFor h = none) :
    deliver lines s (.phase h) = s := by
  simp [deliver, none]

theorem deliver_phase_some {lines : Lines} {s : State} {h : HeadNo} {e : PhaseEvent} (some : s.phaseFor h = some e) :
    deliver lines s (.phase h) = takePhase h lines.gauges[h] e s := by
  simp [deliver, some]

theorem deliver_pitchMark_off {lines : Lines} {s : State} (off : s.tracker.count % 256 ≠ 0) :
    deliver lines s .pitchMark = s := if_neg off

/-- The pitch mark goes to the head whose number the count gives (R12). -/
theorem deliver_pitchMark_on {lines : Lines} {s : State} {h : HeadNo} (on : s.tracker.count = 256 * h.val) :
    deliver lines s .pitchMark = s.pitchMark h lines.sensorHigh := by
  have multiple : s.tracker.count % 256 = 0 := by omega
  have number : s.tracker.count / 256 = h.val := by omega
  rw [deliver, if_pos multiple, number, Fin.ofNat_eq_cast, Fin.cast_val_eq_self]

/-- A phase event leaves the tracker. -/
theorem takePhase_tracker (h : HeadNo) (gauge : Gauge) (e : PhaseEvent) (s : State) :
    (takePhase h gauge e s).tracker = s.tracker := by
  by_cases discharge : e = .discharge
  · subst discharge
    obtain ⟨hs, p, r, m, c, l, rs, frame⟩ := dischargeEvent_frame h s
    rw [takePhase, frame]
  · obtain ⟨hd, frame⟩ := takePhase_frame h gauge e s discharge
    rw [frame, State.setHead_tracker]

/-- The drain check leaves every head. -/
theorem State.drainCheck_head (s : State) (k : HeadNo) : s.drainCheck.head k = s.head k := by
  rcases s.drainCheck_cases with same | ⟨-, -, entered⟩
  · rw [same]
  · rw [entered, State.enterStandby_head]

theorem State.offerTicket_head (t : DischargeTicket) (s : State) (k : HeadNo) : (s.offerTicket t).head k = s.head k := by
  obtain ⟨r, p, frame⟩ := s.offerTicket_frame t
  rw [frame]
  rfl

theorem State.promoteAtPitch_head (s : State) (k : HeadNo) : s.promoteAtPitch.head k = s.head k := by
  unfold State.promoteAtPitch
  split
  · rw [State.promoteAll_head]
  · rfl

section OtherHeads
variable {h k : HeadNo} (other : k ≠ h)
include other

theorem State.disableHead_head_ne (s : State) : (s.disableHead h).head k = s.head k := by
  simp [State.disableHead, other]

theorem State.accountRun_head_ne (faulty : Bool) (s : State) : (s.accountRun h faulty).head k = s.head k := by
  unfold State.accountRun
  dsimp only
  split
  · exact s.disableHead_head_ne other
  · split
    · split
      · rw [State.disableHead_head_ne other, State.onHead_head_ne s _ other]
      · exact s.onHead_head_ne _ other
    · exact s.onHead_head_ne _ other

theorem State.faultAccounting_head_ne (reasons : List Reason) (s : State) :
    (s.faultAccounting h reasons).head k = s.head k := by
  unfold State.faultAccounting
  dsimp only
  split
  · exact State.accountRun_head_ne other _ _
  · exact s.accountRun_head_ne other _

/-- The report of a can leaves every other head (R131). -/
theorem State.reportCan_head_ne (c : Context) (s : State) : (s.reportCan h c).head k = s.head k := by
  unfold State.reportCan
  dsimp only
  rw [State.offerTicket_head, State.countDischarged, State.bumpPart_head, State.bumpHead_head,
    State.faultAccounting_head_ne other]

/-- A phase event leaves every other head. -/
theorem takePhase_head_ne (gauge : Gauge) (e : PhaseEvent) (s : State) : (takePhase h gauge e s).head k = s.head k := by
  by_cases discharge : e = .discharge
  · subst discharge
    simp only [takePhase, dischargeEvent]
    split
    · rw [State.drainCheck_head, State.onHead_head_ne _ _ other, State.reportCan_head_ne other]
    · rfl
  · obtain ⟨hd, frame⟩ := takePhase_frame h gauge e s discharge
    rw [frame, State.setHead_head_ne s hd other]

/-- The pitch mark at the infeed leaves every other head. -/
theorem State.infeedPitch_head_ne (high : Bool) (s : State) : (s.infeedPitch h high).head k = s.head k := by
  obtain ⟨u, hd, p, r, frame⟩ := s.infeedPitch_frame h high
  rw [frame]
  exact s.setHead_head_ne hd other

end OtherHeads

/-! ## The can bound at a pitch mark -/

/-- Head h's context in `t` is the one of `s`, or one bound with the cam half of a live recipe of `s`. -/
def State.KeepsOrBinds (h : HeadNo) (s t : State) : Prop :=
  (t.head h).ctx = (s.head h).ctx
    ∨ ∃ (p : SlotNo) (r : Recipe) (c : Context), (s.slot p).live = some r ∧ c.cam = r.cam ∧ (t.head h).ctx = some c

theorem State.emitAtOnce_head (t : Ticket) (h : HeadNo) (reason : Option Reason) (s : State) (k : HeadNo) :
    (s.emitAtOnce t h reason).head k = s.head k := by
  obtain ⟨p, r, frame⟩ := s.emitAtOnce_frame t h reason
  rw [frame]
  rfl

theorem State.dealTicket_keepsOrBinds (h : HeadNo) (t : Ticket) (s : State) : s.KeepsOrBinds h (s.dealTicket h t) := by
  unfold State.dealTicket
  split
  · split
    · exact .inl (congrArg Head.ctx (s.emitAtOnce_head t h _ h))
    · rename_i r live
      refine .inr ⟨t.product, r, trackedContext t r (s.slot t.product).version, live, rfl, ?_⟩
      simp [State.bindTicket, Head.bind]
  · exact .inl (congrArg Head.ctx (s.emitAtOnce_head t h _ h))

theorem State.untrackedCan_keepsOrBinds (h : HeadNo) (s : State) : s.KeepsOrBinds h (s.untrackedCan h) := by
  unfold State.untrackedCan
  dsimp only
  split
  · split
    · exact .inl rfl
    · rename_i p _
      split
      · exact .inl rfl
      · rename_i r live
        refine .inr ⟨p, r, untrackedContext p r (s.slot p).version, live, rfl, ?_⟩
        simp [State.countUntracked, Head.bind]
  · exact .inl rfl

/-- A pitch mark leaves its head's context, or binds one with the cam half of a live recipe (R28, R31). -/
theorem State.infeedPitch_keepsOrBinds (h : HeadNo) (high : Bool) (s : State) :
    s.KeepsOrBinds h (s.infeedPitch h high) := by
  have emitted : ∀ (u : State) (t : Ticket) (reason : Option Reason), u.head h = s.head h →
      s.KeepsOrBinds h (u.emitAtOnce t h reason) := fun u t reason same =>
    .inl (congrArg Head.ctx ((u.emitAtOnce_head t h reason h).trans same))
  unfold State.infeedPitch
  dsimp only
  split
  · split
    · split
      · split
        · exact State.dealTicket_keepsOrBinds h _ _
        · exact emitted _ _ _ rfl
      · exact emitted _ _ _ rfl
    · split
      · split
        · exact State.untrackedCan_keepsOrBinds h _
        · exact .inl rfl
      · exact .inl rfl
  · exact .inl rfl

/-! ## The pitch mark -/

theorem State.promoteAtPitch_tracker (s : State) : s.promoteAtPitch.tracker = s.tracker := by
  unfold State.promoteAtPitch
  split
  · rw [State.promoteAll_tracker]
  · rfl

/-- A pitch mark takes the pitch timer, and neither the promotion nor the infeed unit touches the tracker (R13). -/
theorem State.pitchMark_tracker (h : HeadNo) (high : Bool) (s : State) :
    (s.pitchMark h high).tracker = s.tracker.pitchMark s.now := by
  obtain ⟨u, hd, p, r, frame⟩ := (s.setTracker (s.tracker.pitchMark s.now)).promoteAtPitch.infeedPitch_frame h high
  rw [State.pitchMark, frame]
  exact State.promoteAtPitch_tracker _

/-- A pitch mark leaves its head's context, or binds one with a valid cam half; it leaves every other head (R12, R39). -/
theorem State.pitchMark_ctx {s : State} (recipes : s.RecipesFit) (h : HeadNo) (high : Bool) {k : HeadNo} {x : Context}
    (held : ((s.pitchMark h high).head k).ctx = some x) :
    (s.head k).ctx = some x ∨ (k = h ∧ camValid x.cam s.tracker.aDis) := by
  let table := (s.setTracker (s.tracker.pitchMark s.now)).promoteAtPitch
  have heads : table.head k = s.head k := State.promoteAtPitch_head _ k
  by_cases own : k = h
  · subst own
    rcases table.infeedPitch_keepsOrBinds k high with kept | ⟨p, r, c, live, cam, bound⟩
    · exact .inl (heads ▸ kept.symm.trans held)
    · obtain rfl : c = x := Option.some.inj (bound.symm.trans held)
      have crosses : s.Crosses table := .trans (.single (.pitchMark s)) (State.promoteAtPitch_crosses _)
      obtain ⟨-, valid, -⟩ := crosses.keeps (fun _ _ change => change.keeps_recipesFit) recipes
      obtain ⟨-, liveCam, -⟩ := valid p
      rw [cam, ← crosses.frame.aDis]
      exact .inr ⟨rfl, liveCam r live⟩
  · refine .inl ?_
    rw [← heads, ← State.infeedPitch_head_ne own high table]
    exact held

/-- A pitch mark of head h finds no phase event afterwards, if there was none: a can that it binds has none at angle 0. -/
theorem State.phaseFor_pitchMark {s : State} (recipes : s.RecipesFit) {h : HeadNo} (on : s.tracker.count = 256 * h.val)
    (high : Bool)
    (none : ∀ k : HeadNo, ∀ x ∈ (s.head k).ctx, ∀ e : PhaseEvent,
      relativeAngle s.tracker.count k ≠ e.angle s.tracker.aDis x.cam) (k : HeadNo) :
    (s.pitchMark h high).phaseFor k = .none := by
  have frame := (s.pitchMark_crosses h high).frame
  refine State.phaseFor_none fun x held e => ?_
  rw [frame.count, frame.aDis]
  rcases State.pitchMark_ctx recipes h high held with old | ⟨rfl, valid⟩
  · exact none k x old e
  · obtain ⟨-, -, zero⟩ := relativeAngle_spec k (show s.tracker.count < 6144 by omega)
    rw [zero.2 on]
    exact (PhaseEvent.angle_pos valid e).ne

/-! ## Many events of a crossing -/

/-- Events that each find nothing to do do nothing together. -/
theorem foldl_deliver_idle {lines : Lines} {s : State} {as : List Arrival} (idle : ∀ a ∈ as, deliver lines s a = s) :
    as.foldl (deliver lines) s = s := by
  induction as with
  | nil => rfl
  | cons a as ih =>
    rw [List.foldl_cons, idle a (by simp)]
    exact ih fun b mem => idle b (by simp [mem])

/-- Phase events leave the tracker and the clock. -/
theorem foldl_deliver_phases {lines : Lines} {s : State} {as : List Arrival} (phases : Arrival.pitchMark ∉ as) :
    (as.foldl (deliver lines) s).tracker = s.tracker ∧ (as.foldl (deliver lines) s).now = s.now := by
  induction as generalizing s with
  | nil => exact ⟨rfl, rfl⟩
  | cons a as ih =>
    rw [List.mem_cons, not_or] at phases
    have one : (deliver lines s a).tracker = s.tracker := by
      cases a with
      | pitchMark => exact absurd rfl phases.1
      | phase h =>
        cases found : s.phaseFor h with
        | none => rw [deliver_phase_none found]
        | some e => rw [deliver_phase_some found, takePhase_tracker]
    obtain ⟨tracker, now⟩ := ih (s := deliver lines s a) phases.2
    exact ⟨tracker.trans one, now.trans (deliver_crosses lines s a).frame.now⟩

/-- A crossing onto a pitch mark takes the pitch timer once, whatever the order (R11, R13). -/
theorem deliverAll_tracker_at_pitchMark (lines : Lines) (order : List Arrival) {s : State}
    (on : s.tracker.count % 256 = 0) : (deliverAll lines order s).tracker = s.tracker.pitchMark s.now := by
  obtain ⟨before, after, split, notBefore, notAfter⟩ := schedule_split order .pitchMark
  obtain ⟨tracker, now⟩ := foldl_deliver_phases (lines := lines) (s := s) notBefore
  rw [deliverAll, split, List.foldl_append, List.foldl_cons, (foldl_deliver_phases notAfter).1, deliver,
    if_pos (tracker ▸ on), State.pitchMark_tracker, tracker, now]

/-- A crossing off the pitch marks, with no phase event, does nothing. -/
theorem deliverAll_idle {lines : Lines} {order : List Arrival} {s : State} (off : s.tracker.count % 256 ≠ 0)
    (none : ∀ h : HeadNo, s.phaseFor h = none) : deliverAll lines order s = s := by
  refine foldl_deliver_idle fun a _ => ?_
  cases a with
  | pitchMark => exact deliver_pitchMark_off off
  | phase h => exact deliver_phase_none (none h)

/-- A crossing off the pitch marks, with a phase event for one head, delivers that event alone, whatever the order (R11). -/
theorem deliverAll_single {lines : Lines} {order : List Arrival} {s : State} {h : HeadNo} {e : PhaseEvent}
    (off : s.tracker.count % 256 ≠ 0) (event : s.phaseFor h = some e)
    (others : ∀ k : HeadNo, k ≠ h → s.phaseFor k = none) :
    deliverAll lines order s = takePhase h lines.gauges[h] e s := by
  obtain ⟨before, after, split, notBefore, notAfter⟩ := schedule_split order (.phase h)
  have idle : ∀ (u : State), u.tracker = s.tracker → (∀ k : HeadNo, k ≠ h → u.head k = s.head k) →
      ∀ a, a ≠ .phase h → deliver lines u a = u := by
    intro u tracker heads a other
    cases a with
    | pitchMark => exact deliver_pitchMark_off (by rw [tracker]; exact off)
    | phase k =>
      have apart : k ≠ h := fun same => other (same ▸ rfl)
      refine deliver_phase_none ?_
      rw [State.phaseFor, heads k apart, tracker]
      exact others k apart
  rw [deliverAll, split, List.foldl_append, List.foldl_cons,
    foldl_deliver_idle fun a mem => idle s rfl (fun _ _ => rfl) a fun same => notBefore (same ▸ mem),
    deliver_phase_some event]
  exact foldl_deliver_idle fun a mem => idle _ (takePhase_tracker h _ e s) (fun k apart => takePhase_head_ne apart _ e s) a
    fun same => notAfter (same ▸ mem)

/-! ## The forward edge -/

/-- The part once a forward edge has moved the count to `c`, before the crossing's events. -/
abbrev State.onto (dt c : Nat) (s : State) : State :=
  { s with now := s.now + dt, tracker := { s.tracker with count := c, direction := .forward } }

/-- A forward edge that the hold suppresses moves the count, and ends the hold where it reaches it (R2, R7). -/
theorem exec_forwardEdge_suppressed {s : State} {c : Nat} (count : c = (s.tracker.count + 1) % 6144)
    (held : 1 ≤ c ∧ c ≤ s.tracker.hold) (dt : Nat) (lines : Lines) (order : List Arrival) :
    exec (.forwardEdge dt lines order) s = .next { s.onto dt c with
      tracker := { (s.onto dt c).tracker with hold := if c = s.tracker.hold then 0 else s.tracker.hold } } := by
  subst count
  exact congrArg Host.Outcome.next (if_pos held)

/-- A forward edge that is not suppressed crosses onto the next count (R2). -/
theorem exec_forwardEdge_crossing {s : State} {c : Nat} (count : c = (s.tracker.count + 1) % 6144)
    (free : ¬ (1 ≤ c ∧ c ≤ s.tracker.hold)) (dt : Nat) (lines : Lines) (order : List Arrival) :
    exec (.forwardEdge dt lines order) s = .next (deliverAll lines order (s.onto dt c)) := by
  subst count
  exact congrArg Host.Outcome.next (if_neg free)

/-- A correction crosses onto a count as a forward edge does, while the turret runs forward (R5). -/
theorem crossOnto_eq {s : State} (forward : s.tracker.direction = .forward) (dt c : Nat) (lines : Lines)
    (order : List Arrival) : crossOnto c lines order (s.elapse dt) = deliverAll lines order (s.onto dt c) := by
  unfold State.onto
  rw [← forward]
  rfl

end Sys2Proof.Machine
end

section
/-! The statements about the turret's crossings, settled. -/

namespace Sys2Proof.Proofs
open Sys2Proof.Machine

/-- Settles O6: a suppressed crossing delivers nothing, and any other is a chain of changes that leave all this. -/
theorem forwardEdgeMovesTheCount : Obligations.ForwardEdgeMovesTheCount := by
  unfold Obligations.ForwardEdgeMovesTheCount
  intro dt lines order s
  by_cases held : 1 ≤ (s.tracker.count + 1) % 6144 ∧ (s.tracker.count + 1) % 6144 ≤ s.tracker.hold
  · refine ⟨_, exec_forwardEdge_suppressed rfl held dt lines order, rfl, rfl, ?_, rfl, rfl, rfl, rfl, rfl, rfl, rfl, rfl,
      rfl, rfl, rfl, le_rfl⟩
    simp [held.1]
  · have frame := (deliverAll_crosses lines order (s.onto dt ((s.tracker.count + 1) % 6144))).frame
    refine ⟨_, exec_forwardEdge_crossing rfl held dt lines order, frame.count, frame.direction, ?_, frame.aDis,
      frame.valves, frame.nq, frame.supply, frame.store, frame.requestsInHand, frame.ticketsInHand, frame.faultLimit,
      frame.mask, frame.pins, frame.own, frame.relay⟩
    rw [frame.hold, frame.count]
    exact (if_neg fun reached => held ⟨reached.2, reached.1.le⟩).symm

/-- Settles O7: off the pitch marks the events of a crossing are the phase events of the heads whose angle it is. -/
theorem forwardEdgeDeliversBySuppressionAndAngle : Obligations.ForwardEdgeDeliversBySuppressionAndAngle := by
  unfold Obligations.ForwardEdgeDeliversBySuppressionAndAngle
  intro dt lines order s c moved hits
  refine ⟨fun low high => exec_forwardEdge_suppressed rfl ⟨low, high⟩ dt lines order, fun free off => ⟨fun none => ?_,
    fun h e hit only => ?_⟩⟩
  · rw [exec_forwardEdge_crossing rfl free dt lines order, deliverAll_idle off]
    exact fun h => State.phaseFor_none fun x held e hit => none h e ⟨x, held, hit⟩
  · obtain ⟨x, held, angle⟩ := hit
    rw [exec_forwardEdge_crossing rfl free dt lines order, deliverAll_single (h := h) (e := e) off]
    · exact State.phaseFor_some held angle fun f other => (only h f ⟨x, held, other⟩).2
    · exact fun k apart => State.phaseFor_none fun y heldThere f other => apart (only k f ⟨y, heldThere, other⟩).1

/-- A hold of at most 2 suppresses no pitch mark (R7, R12). -/
theorem pitchMark_not_suppressed {c hold : Nat} (mark : c % 256 = 0) (small : hold ≤ 2) : ¬ (1 ≤ c ∧ c ≤ hold) := by
  omega

/-- Settles O9: a crossing onto a pitch mark takes the pitch timer once, and its other events leave the tracker. -/
theorem pitchMarkTimesThePitch : Obligations.PitchMarkTimesThePitch := by
  unfold Obligations.PitchMarkTimesThePitch
  intro dt lines order s c mark small
  refine ⟨_, exec_forwardEdge_crossing rfl (pitchMark_not_suppressed mark small) dt lines order, ?_⟩
  rw [deliverAll_tracker_at_pitchMark lines order mark]
  have atMost : ∀ x, min x Config.pitchSaturation = if 4000000 < x then 4000000 else x := fun x => by
    simp only [Config.pitchSaturation]
    split <;> omega
  have valid : (decide (s.tracker.marksSeen < 2) &&
      (if s.tracker.marksSeen < 2 then s.tracker.marksSeen + 1 else s.tracker.marksSeen) == 2)
      = decide (s.tracker.marksSeen = 1) := by
    obtain m | m | m : s.tracker.marksSeen = 0 ∨ s.tracker.marksSeen = 1 ∨ 2 ≤ s.tracker.marksSeen := by omega
    · simp [m]
    · simp [m]
    · simp [Nat.not_lt.2 m, show s.tracker.marksSeen ≠ 1 by omega]
  simp only [Tracker.pitchMark, valid]
  cases s.tracker.pitchTimer with
  | idle => rfl
  | running since =>
    rw [PitchTimer.measure, atMost]
  | saturated => rfl

/-- Settles O10: the pitch mark comes first, and no can that it binds has an event at its own pitch mark, since a valid
recipe's angles are at least 1 and the discharge angle is at least 4096. -/
theorem pitchMarkReachesTheTableThenTheInfeed : Obligations.PitchMarkReachesTheTableThenTheInfeed := by
  unfold Obligations.PitchMarkReachesTheTableThenTheInfeed
  intro dt lines h s c at_h small recipes none
  have mark : c % 256 = 0 := by omega
  rw [exec_forwardEdge_crossing rfl (pitchMark_not_suppressed mark small) dt lines [], deliverAll, schedule_nil,
    allArrivals, List.foldl_cons, deliver_pitchMark_on (h := h) at_h]
  refine congrArg Host.Outcome.next (foldl_deliver_idle fun a mem => ?_)
  obtain ⟨k, -, rfl⟩ := List.mem_map.1 mem
  have table : (s.onto dt c).RecipesFit := recipes.same rfl (fun _ => rfl) (.inl rfl)
  exact deliver_phase_none (State.phaseFor_pitchMark table at_h lines.sensorHigh
    (fun k x held e => PhaseEvent.angle_ne_of_not_mem (none k x held) e) k)

/-- Settles O13: a correction crosses onto the counts that forward edges would, none of which the hold suppresses. -/
theorem forwardCorrectionCrossesLikeForwardEdges : Obligations.ForwardCorrectionCrossesLikeForwardEdges := by
  unfold Obligations.ForwardCorrectionCrossesLikeForwardEdges
  intro dt lines order6143 order0 s forward small
  refine ⟨fun count => ?_, fun count => ?_⟩
  · have next : (0 : Nat) = (s.tracker.count + 1) % 6144 := by omega
    rw [exec_forwardEdge_crossing next (by omega) dt lines order0, ← crossOnto_eq forward dt 0 lines order0]
    simp [exec, execIndexMark, State.indexMark, count, forward]
  · have next : 6143 = (s.tracker.count + 1) % 6144 := by omega
    refine ⟨_, exec_forwardEdge_crossing next (by omega) dt lines order6143, ?_⟩
    have frame := (deliverAll_crosses lines order6143 (s.onto dt 6143)).frame
    have after : (0 : Nat) = ((deliverAll lines order6143 (s.onto dt 6143)).tracker.count + 1) % 6144 := by
      rw [frame.count]
      exact (by decide : (0 : Nat) = (6143 + 1) % 6144)
    rw [exec_forwardEdge_crossing after (by omega) 0 lines order0, ← crossOnto_eq frame.direction 0 0 lines order0,
      ← crossOnto_eq forward dt 6143 lines order6143]
    simp only [exec, execIndexMark, State.indexMark, State.elapse_tracker, count, forward]
    rfl

/-- Settles O15: the angle counts from the pitch mark, the schedule holds every event once, and each is delivered by its own
angle. -/
theorem aCrossingTakesEachOfItsEventsOnce : Obligations.ACrossingTakesEachOfItsEventsOnce := by
  unfold Obligations.ACrossingTakesEachOfItsEventsOnce
  refine ⟨fun c h count => relativeAngle_spec h count, ?_, schedule_spec,
    fun lines h s => ⟨deliver_pitchMark_on, deliver_pitchMark_off, fun empty => ?_, fun x held => ⟨fun none => ?_,
      fun e hit only => ?_⟩⟩⟩
  · intro dt lines order s c free
    exact exec_forwardEdge_crossing rfl free dt lines order
  · exact deliver_phase_none (State.phaseFor_none fun x held => by simp [empty] at held)
  · refine deliver_phase_none (State.phaseFor_none fun y heldThere e => ?_)
    obtain rfl : x = y := Option.some.inj (held.symm.trans heldThere)
    exact none e
  · exact deliver_phase_some (State.phaseFor_some held hit only)

/-- Settles O11: the edge moves the count, and then the HALT is taken or not by the mode. -/
theorem reverseEdgeHaltsInRunAndDrain : Obligations.ReverseEdgeHaltsInRunAndDrain := by
  unfold Obligations.ReverseEdgeHaltsInRunAndDrain
  intro dt s count moved
  have back : (s.tracker.count + 6143) % 6144 = if s.tracker.count = 0 then 6143 else s.tracker.count - 1 := by
    split <;> omega
  simp only [exec, execReverseEdge, State.reverseEdge, State.takeHalt, State.elapse_tracker, back]
  rfl

/-- Settles O12: the counts an index mark can find, in turn. -/
theorem indexMarkWithoutForwardCorrection : Obligations.IndexMarkWithoutForwardCorrection := by
  unfold Obligations.IndexMarkWithoutForwardCorrection
  intro dt lines order6143 order0 s count reverse t
  replace count : t.count < 6144 := count
  replace reverse : 6142 ≤ t.count → t.direction = .reverse := reverse
  refine congrArg Host.Outcome.next ?_
  by_cases zero : t.count = 0
  · exact (if_pos zero).trans (if_pos zero).symm
  refine (if_neg zero).trans (.trans ?_ (if_neg zero).symm)
  by_cases high : t.count = 6142 ∨ t.count = 6143
  · have backward : ¬ t.direction = .forward := by
      rw [reverse (by omega)]
      decide
    rw [if_neg (show ¬ t.count ≤ 2 by omega), if_neg (show ¬ t.count ≤ 6141 by omega)]
    exact (if_pos high).trans (if_neg backward)
  refine (if_neg high).trans ?_
  by_cases low : t.count = 1 ∨ t.count = 2
  · rw [if_pos (show t.count ≤ 2 by omega)]
    have hold : (if t.direction = .forward then max t.hold t.count else t.hold)
        = if t.direction = .reverse then t.hold else if t.hold < t.count then t.count else t.hold := by
      cases t.direction with
      | forward =>
        simp only [if_true, reduceCtorEq, if_false]
        split <;> omega
      | reverse => rfl
    rw [← hold]
    exact if_pos low
  · rw [if_neg (show ¬ t.count ≤ 2 by omega), if_pos (show t.count ≤ 6141 by omega)]
    exact if_neg low

/-- Settles O14: the timer saturates while it runs, and the edge sets the latch whatever it was. -/
theorem pitchSaturationAndCanPresentEdge : Obligations.PitchSaturationAndCanPresentEdge := by
  unfold Obligations.PitchSaturationAndCanPresentEdge
  intro dt s
  refine ⟨fun since runs => ?_, fun idle => ?_, rfl⟩
  · simp only [exec, execPitchTimerSaturation, Tracker.saturate, runs]
    rfl
  · have unchanged : s.tracker.saturate = s.tracker := by
      unfold Tracker.saturate
      split
      · exact absurd ‹_› (idle _)
      · rfl
      · rfl
    simp only [exec, execPitchTimerSaturation, unchanged]
    rfl

end Sys2Proof.Proofs
end

section
/-! The statements about reset, the line configuration and the entries to the modes, settled. -/

namespace Sys2Proof.Proofs
open Sys2Proof.Machine

/-- Settles O3: every field stands at its value, by the definition of the reset. -/
theorem resetPutsEveryBlockAtItsValues : Obligations.ResetPutsEveryBlockAtItsValues := by
  unfold Obligations.ResetPutsEveryBlockAtItsValues
  intro dt pins s
  have own : ownAddress pins = if pins.toNat = 0 ∨ pins.toNat = 31 then none else some pins.toNat := by
    simp only [ownAddress, ← BitVec.toNat_inj]
    rfl
  refine ⟨(s.elapse dt).resetPart pins, rfl, rfl, rfl, rfl, rfl, rfl, State.resetPart_slot _ pins, rfl, rfl, rfl, rfl, rfl,
    rfl, rfl, rfl, fun h => ?_, rfl, fun k => ?_, rfl, rfl, rfl,
    (by decide : ((0 : BitVec 11) &&& BitVec.allOnes 11 != 0) = false), rfl, own, rfl, rfl, rfl, rfl, rfl, rfl⟩
  · simp [State.resetPart, State.reset, HeadCounters.all]
  · simp [State.resetPart, State.reset]

/-- A CONFIG-WRITE that the management unit takes is answered with what its group's owner makes of it (R162, R168). -/
theorem exec_configWrite {i : Instr} {tag : Byte} {v : ConfigValue} {s : State}
    (brings : i.request = some (tag, .configWrite v)) (admits : s.Admits tag (.configWrite v)) :
    exec i s = .next ((dealConfigWrite v (s.taking i.elapsed)).state.answering 16 tag
      (dealConfigWrite v (s.taking i.elapsed)).result (dealConfigWrite v (s.taking i.elapsed)).data) := by
  rw [exec_request brings, takeRequest_admitted admits]
  rfl

/-- Settles O49: each group's owner replaces the group where the written values pass its check, and else refuses. -/
theorem configWriteReplacesAWholeGroup : Obligations.ConfigWriteReplacesAWholeGroup := by
  unfold Obligations.ConfigWriteReplacesAWholeGroup
  intro dt tag v vt ft s u gives above
  have given : ∀ (i : Instr) (x : ConfigValue) (t : State) (r : Result), i.request = some (tag, .configWrite x) →
      i.elapsed = dt → dealConfigWrite x u = ⟨t, r, []⟩ → gives i x t r := by
    intro i x t r brings elapsed dealt admits
    rw [exec_configWrite brings admits, elapsed, dealt]
  have aDis : u.aDisFits v = true ↔ 4096 ≤ v ∧ v ≤ 6143 ∧ above := u.aDisFits_iff v
  refine ⟨fun m => given _ _ _ _ rfl rfl (if_pos m), fun m fits => given _ _ _ _ rfl rfl ?_,
    fun m fits => given _ _ _ _ rfl rfl ?_,
    fun fits => given _ _ _ _ rfl rfl (if_pos fits), fun fits => given _ _ _ _ rfl rfl (if_neg fits),
    fun fits => given _ _ _ _ rfl rfl (if_pos fits), fun fits => given _ _ _ _ rfl rfl (if_neg fits),
    fun fits => given _ _ _ _ rfl rfl ?_, fun fits => given _ _ _ _ rfl rfl (dif_neg (by omega)),
    fun fits => given _ _ _ _ rfl rfl (if_pos fits), fun fits => given _ _ _ _ rfl rfl (if_neg fits),
    fun fits => given _ _ _ _ rfl rfl (if_pos ((valvesValid_iff vt).2 fits)),
    fun fits => given _ _ _ _ rfl rfl (if_neg fun valid => fits ((valvesValid_iff vt).1 valid)),
    fun fits => given _ _ _ _ rfl rfl (if_pos ((flowValid_iff ft).2 fits)),
    fun fits => given _ _ _ _ rfl rfl (if_neg fun valid => fits ((flowValid_iff ft).1 valid))⟩
  · exact (if_neg (not_not.2 m)).trans (if_pos (aDis.2 fits))
  · exact (if_neg (not_not.2 m)).trans (if_neg fun valid => fits (aDis.1 valid))
  · have pair : (⟨v, by omega⟩ : Fin 4) = Fin.ofNat 4 v := Fin.ext (Nat.mod_eq_of_lt (by omega)).symm
    rw [← pair]
    exact dif_pos (by omega)

/-- Settles O39: the entries by their definitions, and the drain check by whether some head holds a context. -/
theorem modeEntriesAndTrackerHalt : Obligations.ModeEntriesAndTrackerHalt := by
  unfold Obligations.ModeEntriesAndTrackerHalt
  intro dt cause request s promoted
  let drained : State := { s with mode := .drain, haltCause := .none, lineStop := false }
  refine ⟨rfl, ⟨_, rfl, s.enterHalt_head cause, ?_⟩, rfl, fun empty => ?_, fun ⟨h, held⟩ => ?_, ?_⟩
  · simp only [State.enterHalt, State.promoteAll, State.onHeads, State.raise, AttentionFlag.mark, State.slot, promoted]
  · exact if_pos ⟨rfl, drained.noContext_iff.2 empty⟩
  · refine if_neg fun ⟨_, empty⟩ => ?_
    have none : (s.head h).ctx = none := drained.noContext_iff.1 empty h
    simp [none] at held
  · cases request <;> rfl

end Sys2Proof.Proofs
end

section
/-! SUPPORT. The ring port's queues and the serials held: what keeps the queues within their sizes, and what takes no ticket
and no can in (R21, R22, R157 to R159, R161). -/

namespace Sys2Proof.Machine

/-! ## The ring port's queues -/

/-- What `State.QueuesFit` says of the ring port. -/
abbrev Ring.Fits (r : Ring) : Prop :=
  r.relay.length ≤ 4 ∧ r.origin.length ≤ 8 ∧ (∀ f ∈ r.origin, f.Fits)
  ∧ (r.transmitter = none → r.relay = [] ∧ r.origin = [])

theorem State.queuesFit_iff (s : State) : s.QueuesFit ↔ s.infeed.queue.length ≤ 8 ∧ s.ring.Fits := Iff.rfl

/-- The arbiter leaves no frame waiting at an idle transmitter, whatever waited before (R159). -/
theorem State.arbitrate_fits {s : State} (relay : s.ring.relay.length ≤ 4) (origin : s.ring.origin.length ≤ 8)
    (frames : ∀ f ∈ s.ring.origin, f.Fits) : s.arbitrate.ring.Fits := by
  rcases s.arbitrate_cases with ⟨h, still⟩ | ⟨f, fs, -, queue, h⟩ | ⟨g, gs, -, queue, h⟩
  · rw [h]
    refine ⟨relay, origin, frames, fun idle => ?_⟩
    simpa [idle] using still
  · rw [h]
    rw [queue] at relay
    exact ⟨Nat.le_of_succ_le relay, origin, frames, nofun⟩
  · rw [h]
    rw [queue] at origin frames
    exact ⟨relay, Nat.le_of_succ_le origin, fun f mem => frames f (List.mem_cons_of_mem _ mem), nofun⟩

theorem State.enterOrigin_fits {f : OriginFrame} {q : List OriginFrame} {s : State}
    (relay : s.ring.relay.length ≤ 4) (room : q.length < 8) (frames : ∀ g ∈ q, g.Fits) (fits : f.Fits) :
    (s.enterOrigin f q).ring.Fits := by
  refine State.arbitrate_fits relay (by simpa using room) fun g mem => ?_
  rcases List.mem_append.1 mem with old | new
  · exact frames g old
  · exact List.mem_singleton.1 new ▸ fits

theorem State.offerReply_fits {r : Reply} {s : State} (short : r.data.length ≤ 55) (fits : s.ring.Fits) :
    (s.offerReply r).ring.Fits := by
  obtain ⟨relay, -, frames, -⟩ := id fits
  unfold State.offerReply
  split
  · exact State.enterOrigin_fits relay ‹_› frames short
  · exact fits

/-- A ticket that finds the queue full takes the place of a reply, or is lost (R158). -/
theorem State.offerTicket_fits {t : DischargeTicket} {s : State} (fits : s.ring.Fits) : (s.offerTicket t).ring.Fits := by
  obtain ⟨relay, origin, frames, -⟩ := id fits
  have ticket : (OriginFrame.ticket t).Fits := Nat.zero_le 55
  unfold State.offerTicket
  split
  · exact State.enterOrigin_fits relay ‹_› frames ticket
  · split
    · rename_i reply
      obtain ⟨f, mem, isReply⟩ := List.any_eq_true.1 reply
      have evicted := List.length_eraseP_of_mem mem isReply
      have waiting := List.length_pos_of_mem mem
      exact State.enterOrigin_fits relay (by omega) (fun g mem => frames g (List.mem_of_mem_eraseP mem)) ticket
    · exact fits

theorem State.offerRelay_fits {f : List Byte} {s : State} (fits : s.ring.Fits) : (s.offerRelay f).ring.Fits := by
  obtain ⟨-, origin, frames, -⟩ := id fits
  unfold State.offerRelay
  split
  · exact State.arbitrate_fits (by simpa) origin frames
  · exact fits

theorem State.endSending_fits {s : State} (fits : s.ring.Fits) : s.endSending.ring.Fits :=
  have ⟨relay, origin, frames, _⟩ := fits
  State.arbitrate_fits relay origin frames

/-! ## The serials held -/

/-- The serial of the can context that a head holds. -/
def Head.serial (hd : Head) : Option Nat := hd.ctx.map (·.serial)

theorem Head.mem_serial {hd : Head} {n : Nat} : hd.serial = some n ↔ ∃ c ∈ hd.ctx, c.serial = n :=
  Option.map_eq_some_iff

/-- A serial stands in use in the infeed queue or at a head (R21). -/
theorem State.serialInUse_iff (n : Nat) (s : State) :
    s.serialInUse n = true
      ↔ (∃ t ∈ s.infeed.queue, t.serial = n) ∨ ∃ h : HeadNo, ∃ c ∈ (s.head h).ctx, c.serial = n := by
  simp only [State.serialInUse, Bool.or_eq_true, List.any_eq_true, beq_iff_eq, Option.any_eq_true, Vector.mem_toList_iff]
  refine or_congr Iff.rfl ⟨fun ⟨hd, mem, found⟩ => ?_, fun ⟨h, found⟩ => ⟨s.head h, Vector.getElem_mem h.isLt, found⟩⟩
  obtain ⟨i, hi, rfl⟩ := Vector.getElem_of_mem mem
  exact ⟨⟨i, hi⟩, found⟩

/-- The invariant of the serials, by the serial of each head. -/
theorem State.serialsFit_iff (s : State) :
    s.SerialsFit ↔ s.infeed.queue.Pairwise (fun a b => a.serial ≠ b.serial)
      ∧ (∀ t ∈ s.infeed.queue, t.serial ≠ Config.untrackedSerial ∧ ∀ h : HeadNo, (s.head h).serial ≠ some t.serial)
      ∧ ∀ (h k : HeadNo) (n : Nat), h ≠ k → (s.head h).serial = some n → (s.head k).serial = some n →
        n = Config.untrackedSerial := by
  refine and_congr Iff.rfl (and_congr ?_ ?_)
  · simp only [ne_eq, Head.mem_serial, not_exists, not_and]
  · simp only [Head.mem_serial]
    constructor
    · rintro apart h k n ne ⟨c, held, rfl⟩ ⟨d, heldThere, same⟩
      exact (apart h k ne c held d heldThere).resolve_right (not_not.2 same.symm)
    · intro apart h k ne c held d heldThere
      exact or_iff_not_imp_right.2 fun same =>
        apart h k c.serial ne ⟨c, held, rfl⟩ ⟨d, heldThere, (not_not.1 same).symm⟩

/-- An event that puts a context with the old one's serial keeps the head's serial. -/
theorem Head.serial_carried {hd new : Head} {c d : Context} (held : hd.ctx = some c) (put : new.ctx = some d)
    (same : d.serial = c.serial) : new.serial = hd.serial := by
  simp [Head.serial, held, put, same]

@[simp] theorem Context.endGassing_serial (cause : GasEndCause) (elapsed : Nat) (c : Context) :
    (c.endGassing cause elapsed).serial = c.serial := by
  unfold Context.endGassing
  split <;> rfl

theorem Head.onSeal_serial (hd : Head) : hd.onSeal.serial = hd.serial := by
  unfold Head.onSeal
  split <;> rfl

theorem Head.stopGas_serial {hd : Head} {c : Context} (held : hd.ctx = some c) (cause : GasEndCause) (elapsed : Nat) :
    (hd.stopGas cause elapsed c).serial = hd.serial :=
  Head.serial_carried held rfl (c.endGassing_serial cause elapsed)

theorem Head.endGassing_serial (cause : GasEndCause) (now : Nat) (hd : Head) :
    (hd.endGassing cause now).serial = hd.serial := by
  rcases hd.endGassing_cases cause now with h | ⟨c, -, held, h⟩
  · rw [h]
  · rw [h, Head.stopGas_serial held]

theorem Head.onCrimp_serial (now nq : Nat) (hd : Head) : (hd.onCrimp now nq).serial = hd.serial := by
  rcases hd.onCrimp_cases now nq with h | ⟨c, rs, -, held, -, h⟩
  · rw [h]
  · rw [h]
    exact Head.serial_carried held rfl rfl

theorem Head.beginVent_serial (now : Nat) (c : Context) (hd : Head) : (hd.beginVent now c).serial = some c.serial := by
  rcases hd.beginVent_cases now c with h | h <;> rw [h] <;> rfl

theorem Head.onVent_serial (now : Nat) (gauge : Gauge) (hd : Head) : (hd.onVent now gauge).serial = hd.serial := by
  rcases hd.onVent_cases now gauge with h | ⟨c, -, held, h⟩ | ⟨c, d, -, held, rfl, h | h⟩
  · rw [h]
  · rw [h, Head.beginVent_serial, Head.serial, held, Option.map_some]
  · rw [h]
    exact Head.serial_carried held rfl rfl
  · rw [h, Head.beginVent_serial, Head.serial, held, Option.map_some]

theorem Head.onLift_serial (hd : Head) : hd.onLift.serial = hd.serial := by
  unfold Head.onLift
  split
  · rename_i c _ held
    exact Head.serial_carried held rfl rfl
  · rfl

theorem Head.onCommandExpiry_serial (hd : Head) : hd.onCommandExpiry.serial = hd.serial := by
  rcases hd.onCommandExpiry_cases with h | ⟨c, elapsed, -, held, h⟩
  · rw [h]
  · rw [h, Head.stopGas_serial held]

theorem Head.onSealExpiry_serial (now : Nat) (hd : Head) : (hd.onSealExpiry now).serial = hd.serial := by
  rcases hd.onSealExpiry_cases now with h | h | ⟨-, h⟩
  · rw [h]
  · rw [h, Head.endGassing_serial]
  · rw [h]
    rfl

theorem Head.onSealReport_serial (hd : Head) : hd.onSealReport.serial = hd.serial := by
  unfold Head.onSealReport
  split <;> rfl

theorem Head.onDwellExpiry_serial (gauge : Gauge) (hd : Head) : (hd.onDwellExpiry gauge).serial = hd.serial := by
  unfold Head.onDwellExpiry
  split
  · rename_i c _ _ held _
    dsimp only
    split
    · exact Head.serial_carried held rfl rfl
    · exact Head.serial_carried held rfl rfl
  · rfl

theorem Head.onVentExpiry_serial (now : Nat) (hd : Head) : (hd.onVentExpiry now).serial = hd.serial := by
  unfold Head.onVentExpiry
  split
  · rfl
  · split <;> rfl
  · rfl

theorem Head.onHalt_serial (now : Nat) (hd : Head) : (hd.onHalt now).serial = hd.serial := by
  rcases hd.onHalt_cases now with h | ⟨c, held, -, h⟩ | ⟨c, held, -, h⟩ | ⟨c, held, -, h⟩
  · rw [h]
  · rw [h]
    exact Head.serial_carried held rfl rfl
  · rw [h]
    exact Head.serial_carried held rfl (c.endGassing_serial _ _)
  · rw [h]
    exact Head.serial_carried held rfl rfl

theorem Head.onResetVentExpiry_serial (hd : Head) : hd.onResetVentExpiry.serial = hd.serial := by
  unfold Head.onResetVentExpiry
  split <;> rfl

theorem Head.bellSample_serial (raw : Int) (hd : Head) : (hd.bellSample raw).serial = hd.serial := by
  have peak : ∀ hd : Head, hd.raisePeak.serial = hd.serial := fun hd => by
    rcases hd.raisePeak_cases with h | h
    · rw [h]
    · rw [h]
      simp [Head.serial, Function.comp_def]
  have comparator : ∀ hd : Head, hd.testComparator.serial = hd.serial := fun hd => by
    rcases hd.testComparator_cases with h | h
    · rw [h]
    · rw [h]
      rfl
  have watch : ∀ hd : Head, hd.testSealWatch.serial = hd.serial := fun hd => by
    rcases hd.testSealWatch_cases with h | h
    · rw [h]
    · rw [h]
      rfl
  exact (watch _).trans ((comparator _).trans (peak _))

theorem Head.forceSample_serial (newtons : Int) (hd : Head) : (hd.forceSample newtons).serial = hd.serial := by
  obtain ⟨n, q, h⟩ := hd.forceSample_frame newtons
  rw [h]
  rfl

/-! ## What takes no can in -/

/-- `t` holds no ticket and no can that `s` does not, and its ring port fits if that of `s` does. -/
structure State.Sheds (s t : State) : Prop where
  queue : t.infeed.queue.Sublist s.infeed.queue
  serials : ∀ (h : HeadNo) (n : Nat), (t.head h).serial = some n → (s.head h).serial = some n
  ring : s.ring.Fits → t.ring.Fits

theorem State.Sheds.refl (s : State) : s.Sheds s := ⟨.refl _, fun _ _ held => held, id⟩

theorem State.Sheds.trans {s t u : State} (a : s.Sheds t) (b : t.Sheds u) : s.Sheds u :=
  ⟨b.queue.trans a.queue, fun h n held => a.serials h n (b.serials h n held), b.ring ∘ a.ring⟩

/-- What leaves the infeed queue and the ring port and keeps every head's serial takes no can in. -/
theorem State.Sheds.aside {s t : State} (queue : t.infeed.queue = s.infeed.queue) (ring : t.ring = s.ring)
    (serials : ∀ h : HeadNo, (t.head h).serial = (s.head h).serial) : s.Sheds t :=
  ⟨queue ▸ .refl _, fun h _ held => serials h ▸ held, fun fits => ring ▸ fits⟩

/-- What touches the ring port and the report unit alone, and keeps the queues' sizes, takes no can in. -/
theorem State.Sheds.ofRing {s t : State} (frame : ∃ r p, t = { s with ring := r, report := p })
    (ring : s.ring.Fits → t.ring.Fits) : s.Sheds t := by
  obtain ⟨r, p, rfl⟩ := frame
  exact ⟨.refl _, fun _ _ held => held, ring⟩

theorem State.elapse_sheds (s : State) (dt : Nat) : s.Sheds (s.elapse dt) := .aside rfl rfl fun _ => rfl

theorem State.setTracker_sheds (t : Tracker) (s : State) : s.Sheds (s.setTracker t) := .aside rfl rfl fun _ => rfl

theorem State.raise_sheds (a : AttentionFlag) (s : State) : s.Sheds (s.raise a) := .aside rfl rfl fun _ => rfl

theorem State.bumpHead_sheds (h : HeadNo) (f : HeadCounters → HeadCounters) (s : State) : s.Sheds (s.bumpHead h f) :=
  .aside rfl rfl fun _ => rfl

theorem State.bumpPart_sheds (f : PartCounters → PartCounters) (s : State) : s.Sheds (s.bumpPart f) :=
  .aside rfl rfl fun _ => rfl

theorem State.bumpPart_raise_sheds (f : PartCounters → PartCounters) (a : AttentionFlag) (s : State) :
    s.Sheds ((s.bumpPart f).raise a) :=
  (s.bumpPart_sheds f).trans (State.raise_sheds a _)

/-- A head put back with its own serial, or with none, takes no can in. -/
theorem State.setHead_sheds {h : HeadNo} {hd : Head} {s : State}
    (kept : ∀ n, hd.serial = some n → (s.head h).serial = some n) : s.Sheds (s.setHead h hd) := by
  refine ⟨.refl _, fun k n held => ?_, id⟩
  by_cases same : k = h
  · subst same
    exact kept n (by simpa using held)
  · rwa [State.setHead_head_ne s hd same] at held

theorem State.onHead_sheds {h : HeadNo} {f : Head → Head} {s : State}
    (kept : (f (s.head h)).serial = (s.head h).serial) : s.Sheds (s.onHead h f) :=
  State.setHead_sheds fun _ held => kept ▸ held

theorem State.onHeads_sheds {f : HeadNo → Head → Head} {s : State}
    (kept : ∀ h, (f h (s.head h)).serial = (s.head h).serial) : s.Sheds (s.onHeads f) :=
  .aside (congrArg Infeed.queue (s.onHeads_infeed f)) (s.onHeads_ring f) fun h => by rw [State.onHeads_head, kept]

theorem State.offerReply_sheds {r : Reply} (short : r.data.length ≤ 55) (s : State) : s.Sheds (s.offerReply r) :=
  .ofRing (s.offerReply_frame r) (State.offerReply_fits short)

theorem State.offerTicket_sheds (t : DischargeTicket) (s : State) : s.Sheds (s.offerTicket t) :=
  .ofRing (s.offerTicket_frame t) State.offerTicket_fits

theorem State.offerRelay_sheds (f : List Byte) (s : State) : s.Sheds (s.offerRelay f) :=
  .ofRing (s.offerRelay_frame f) State.offerRelay_fits

theorem State.endSending_sheds (s : State) : s.Sheds s.endSending := by
  obtain ⟨r, h⟩ := State.arbitrate_frame { s with ring := { s.ring with transmitter := none } }
  exact .ofRing ⟨r, s.report, h⟩ State.endSending_fits

/-! ## Mode control and the reset -/

theorem State.enterStandby_sheds (s : State) : s.Sheds s.enterStandby :=
  .aside (congrArg Infeed.queue s.enterStandby_infeed) s.enterStandby_ring fun h => by rw [State.enterStandby_head]

theorem State.promoteAtPitch_sheds (s : State) : s.Sheds s.promoteAtPitch := by
  unfold State.promoteAtPitch
  split
  · exact .aside (congrArg Infeed.queue s.promoteAll_infeed) s.promoteAll_ring fun h => by rw [State.promoteAll_head]
  · exact .refl s

theorem State.drainCheck_sheds (s : State) : s.Sheds s.drainCheck := by
  rcases s.drainCheck_cases with h | ⟨-, -, h⟩
  · rw [h]
    exact .refl s
  · rw [h]
    exact s.enterStandby_sheds

theorem State.enterDrain_sheds (s : State) : s.Sheds s.enterDrain := by
  have entered : s.Sheds { s with mode := .drain, haltCause := .none, lineStop := false } := .aside rfl rfl fun _ => rfl
  exact entered.trans (State.drainCheck_sheds _)

theorem State.enterHalt_sheds (cause : HaltCause) (s : State) : s.Sheds (s.enterHalt cause) :=
  .aside (congrArg Infeed.queue (s.enterHalt_infeed cause)) (s.enterHalt_ring cause) fun h => by
    rw [State.enterHalt_head]
    rfl

theorem State.takeHalt_sheds (cause : HaltCause) (s : State) : s.Sheds (s.takeHalt cause) := by
  rcases s.takeHalt_cases cause with ⟨h, -⟩ | ⟨h, -⟩
  · rw [h]
    exact .refl s
  · rw [h]
    exact s.enterHalt_sheds cause

theorem State.takeMode_sheds (target : ModeTarget) (s : State) : s.Sheds (s.takeMode target).1 := by
  rcases s.takeMode_cases target with h | ⟨h, -⟩ | ⟨h, -⟩ | ⟨h, -⟩ | ⟨h, -⟩ <;> rw [h]
  · exact .refl s
  · exact .aside rfl rfl fun _ => rfl
  · exact s.enterDrain_sheds
  · exact s.enterHalt_sheds _
  · exact s.enterStandby_sheds

theorem State.enterLow_sheds (s : State) : s.Sheds s.enterLow := by
  refine .aside ?_ ?_ fun h => ?_
  · obtain ⟨hs, e⟩ := s.enterLow_frame
    rw [e]
  · obtain ⟨hs, e⟩ := s.enterLow_frame
    rw [e]
  · rw [State.enterLow_head]
    rfl

/-- A reset empties the queues and the heads (R151). -/
theorem State.resetPart_sheds (pins : BitVec 5) (s : State) : s.Sheds (s.resetPart pins) where
  queue := by
    have queue : (s.resetPart pins).infeed.queue = [] := rfl
    rw [queue]
    exact List.nil_sublist _
  serials h n held := by
    rw [State.resetPart_head] at held
    cases held
  ring _ := by
    have ring : (s.resetPart pins).ring = ⟨pins, ownAddress pins, [], [], none, .origin⟩ := rfl
    rw [ring]
    simp [Ring.Fits]

/-! ## The phase events -/

theorem State.disableHead_sheds (h : HeadNo) (s : State) : s.Sheds (s.disableHead h) :=
  have head : s.Sheds (s.onHead h fun hd => { hd with entry := { hd.entry with enabled := false } }) :=
    State.onHead_sheds rfl
  head.trans (State.raise_sheds _ _)

theorem State.accountRun_sheds (h : HeadNo) (faulty : Bool) (s : State) : s.Sheds (s.accountRun h faulty) := by
  unfold State.accountRun
  dsimp only
  split
  · exact s.disableHead_sheds h
  · split
    · split
      · exact .trans (State.onHead_sheds rfl) (State.disableHead_sheds h _)
      · exact State.onHead_sheds rfl
    · exact State.onHead_sheds rfl

theorem State.faultAccounting_sheds (h : HeadNo) (reasons : List Reason) (s : State) :
    s.Sheds (s.faultAccounting h reasons) := by
  unfold State.faultAccounting
  dsimp only
  split
  · exact (s.bumpHead_sheds h _).trans (State.accountRun_sheds h _ _)
  · exact s.accountRun_sheds h _

theorem State.countDischarged_sheds (t : DischargeTicket) (s : State) : s.Sheds (s.countDischarged t) :=
  (s.bumpHead_sheds _ _).trans (State.bumpPart_sheds _ _)

theorem State.reportCan_sheds (h : HeadNo) (c : Context) (s : State) : s.Sheds (s.reportCan h c) :=
  (s.faultAccounting_sheds h c.reasons).trans ((State.countDischarged_sheds _ _).trans (State.offerTicket_sheds _ _))

theorem dischargeEvent_sheds (h : HeadNo) (s : State) : s.Sheds (dischargeEvent h s) := by
  unfold dischargeEvent
  split
  · rename_i c _ _
    have dropped : (s.reportCan h c).Sheds ((s.reportCan h c).onHead h Head.dropContext) :=
      State.setHead_sheds fun _ held => by cases held
    exact (s.reportCan_sheds h c).trans (dropped.trans (State.drainCheck_sheds _))
  · exact .refl s

theorem gasStartEvent_sheds (h : HeadNo) (s : State) : s.Sheds (gasStartEvent h s) := by
  unfold gasStartEvent
  split
  · rename_i c _ held
    split
    · exact State.onHead_sheds (Head.serial_carried held rfl rfl)
    · split
      · exact State.onHead_sheds (Head.serial_carried held rfl rfl)
      · exact State.onHead_sheds (Head.serial_carried held rfl rfl)
  · exact .refl s

theorem takePhase_sheds (h : HeadNo) (gauge : Gauge) (e : PhaseEvent) (s : State) : s.Sheds (takePhase h gauge e s) := by
  cases e with
  | sealing => exact State.onHead_sheds (Head.onSeal_serial _)
  | gasStart => exact gasStartEvent_sheds h s
  | gasEnd => exact State.onHead_sheds (Head.endGassing_serial _ _ _)
  | crimp => exact State.onHead_sheds (Head.onCrimp_serial _ _ _)
  | vent => exact State.onHead_sheds (Head.onVent_serial _ _ _)
  | lift => exact State.onHead_sheds (Head.onLift_serial _)
  | discharge => exact dischargeEvent_sheds h s

theorem State.emitAtOnce_sheds (t : Ticket) (h : HeadNo) (reason : Option Reason) (s : State) :
    s.Sheds (s.emitAtOnce t h reason) := by
  refine .trans ?_ (State.offerTicket_sheds _ _)
  unfold State.countEmitted
  split <;> exact s.bumpPart_sheds _

end Sys2Proof.Machine
end

section
/-! SUPPORT. The requests: each is dealt with without taking a can in, and its reply fits a frame (R161, R162). -/

namespace Sys2Proof.Machine

/-- What a request is dealt with from `s`: no can is taken in, and the data section of the reply fits a frame. -/
structure Dealt.Within (s : State) (d : Dealt) : Prop where
  state : s.Sheds d.state
  data : d.data.length ≤ 55

/-- A request that changes nothing answers with data that fits. -/
theorem unchanged_within {data : List Byte} (short : data.length ≤ 55) (s : State) (r : Result) :
    (unchanged s r data).Within s := ⟨.refl s, short⟩

/-- A refusal carries no data (R161). -/
theorem refused_within (s : State) (r : Result) : (unchanged s r).Within s :=
  unchanged_within (data := []) (Nat.zero_le 55) s r

/-- A write that passes its check takes no can in, and one that does not is refused; neither answers data. -/
theorem Dealt.Within.guarded {p : Prop} [Decidable p] {s t : State} (shed : s.Sheds t) (taken refused : Result) :
    Dealt.Within s (if p then ⟨t, taken, []⟩ else unchanged s refused) := by
  split
  · exact ⟨shed, Nat.zero_le 55⟩
  · exact refused_within s refused

/-! ## The lengths of the replies -/

@[simp] theorem signedBytes_length (k : Nat) (i : Int) : (signedBytes k i).length = k := bytesOf_length _ _

@[simp] theorem gasBytes_length (g : GasHalf) : (gasBytes g).length = 27 := by simp [gasBytes]

@[simp] theorem camBytes_length (c : CamHalf) : (camBytes c).length = 27 := by simp [camBytes]

@[simp] theorem Slot.record_length (sl : Slot) : sl.record.length = 2 := by simp [Slot.record]

@[simp] theorem State.modeData_length (s : State) : s.modeData.length = 2 := by simp [State.modeData]

@[simp] theorem HeadEntry.bytes_length (e : HeadEntry) : e.bytes.length = 6 := by simp [HeadEntry.bytes]

@[simp] theorem storeEntryBytes_length (e : Option HeadEntry) : (storeEntryBytes e).length = 7 := by
  cases e <;> simp [storeEntryBytes]

@[simp] theorem Snapshot.bytes_length (h : HeadNo) (p : Snapshot) : (p.bytes h).length = 16 := by simp [Snapshot.bytes]

/-- Fields of one length make up a section of as many times that length. -/
theorem length_flatMap_const {α : Type} {f : α → List Byte} {k : Nat} (each : ∀ a, (f a).length = k) (l : List α) :
    (l.flatMap f).length = l.length * k := by
  simp [List.length_flatMap, each]

@[simp] theorem State.statusData_length (s : State) : s.statusData.length = 52 := by
  simp [State.statusData, length_flatMap_const Slot.record_length]

theorem heldHalf_length {sl : Slot} {source half : Nat} {bytes : List Byte} (held : heldHalf sl source half = some bytes) :
    bytes.length = 27 := by
  unfold heldHalf at held
  split at held <;> obtain ⟨x, -, rfl⟩ := Option.map_eq_some_iff.1 held
  · exact gasBytes_length _
  · exact camBytes_length _
  · exact gasBytes_length _
  · exact camBytes_length _

/-- The counters of a scope are at most nine of 4 bytes (R167). -/
theorem State.scopeBytes_length {scope : Nat} {s : State} {bytes : List Byte} (counts : s.scopeBytes scope = some bytes) :
    bytes.length ≤ 36 := by
  have four : ∀ l : List Nat, (l.flatMap (bytesOf 4)).length = l.length * 4 := length_flatMap_const (bytesOf_length 4)
  unfold State.scopeBytes at counts
  split at counts
  · cases counts
    simp
  · dsimp only at counts
    split at counts
    · cases counts
      simp
    · split at counts
      · cases counts
        simp [four]
      · split at counts <;> cases counts
        simp [four]

/-- The longest group is the flow table, of 32 bytes (R168). -/
theorem State.configBytes_length {group : Nat} {s : State} {bytes : List Byte} (read : s.configBytes group = some bytes) :
    bytes.length ≤ 32 := by
  unfold State.configBytes at read
  split at read <;> cases read
  case h_6 => rw [length_flatMap_const (k := 4) fun v => by simp]; simp
  case h_7 => rw [length_flatMap_const (k := 4) fun b => by simp]; simp
  all_goals simp

/-! ## The dealings -/

theorem dealMode_within (target : ModeTarget) (s : State) : (dealMode target s).Within s :=
  ⟨s.takeMode_sheds target, by simp [dealMode]⟩

theorem dealRestart_within (pins : BitVec 5) (s : State) : (dealRestart pins s).Within s := by
  unfold dealRestart
  split
  · exact ⟨s.resetPart_sheds pins, Nat.zero_le 55⟩
  · exact refused_within s _

theorem dealPending_within (p : SlotNo) (pend : Pending) (s : State) : (dealPending p pend s).Within s :=
  ⟨.aside rfl rfl fun _ => rfl, by simp [dealPending]⟩

theorem dealRecipeGas_within (product : Nat) (g : GasHalf) (s : State) : (dealRecipeGas product g s).Within s := by
  unfold dealRecipeGas
  split
  · split
    · exact dealPending_within _ _ s
    · exact refused_within s _
  · exact refused_within s _

theorem dealRecipeCam_within (product : Nat) (c : CamHalf) (s : State) : (dealRecipeCam product c s).Within s := by
  unfold dealRecipeCam
  split
  · split
    · exact dealPending_within _ _ s
    · exact refused_within s _
  · exact refused_within s _

theorem dealRecipeDrop_within (product : Nat) (s : State) : (dealRecipeDrop product s).Within s := by
  unfold dealRecipeDrop
  split
  · exact dealPending_within _ _ s
  · exact refused_within s _

theorem dealRecipeClear_within (product : Nat) (s : State) : (dealRecipeClear product s).Within s := by
  unfold dealRecipeClear
  split
  · split
    · exact refused_within s _
    · exact dealPending_within _ _ s
  · exact refused_within s _

theorem dealRecipeRead_within (product source half : Nat) (s : State) : (dealRecipeRead product source half s).Within s := by
  unfold dealRecipeRead
  split
  · split
    · split
      · exact unchanged_within (by simp [heldHalf_length ‹_›]) s _
      · exact unchanged_within (by simp) s _
    · exact refused_within s _
  · exact refused_within s _

theorem dealHeadWrite_within (head : Nat) (resetCount : Bool) (f : HeadFields) (s : State) :
    (dealHeadWrite head resetCount f s).Within s := by
  unfold dealHeadWrite
  split
  · split
    · exact refused_within s _
    · exact ⟨State.onHead_sheds rfl, Nat.zero_le 55⟩
  · exact refused_within s _

theorem dealHeadRead_within (head : Nat) (s : State) : (dealHeadRead head s).Within s := by
  unfold dealHeadRead
  split
  · exact unchanged_within (by simp) s _
  · exact refused_within s _

theorem State.startStore_within (op : StoreOp) (s : State) (r : Result) : (⟨s.startStore op, r, []⟩ : Dealt).Within s :=
  ⟨.aside rfl rfl fun _ => rfl, Nat.zero_le 55⟩

theorem dealHeadStore_within (head : Nat) (s : State) : (dealHeadStore head s).Within s := by
  unfold dealHeadStore
  split
  · split
    · exact refused_within s _
    · split
      · exact refused_within s _
      · exact s.startStore_within _ _
  · exact refused_within s _

theorem dealProtect_within (marks : BitVec 4) (s : State) : (dealProtect marks s).Within s := by
  unfold dealProtect
  split
  · exact refused_within s _
  · split
    · exact refused_within s _
    · exact s.startStore_within _ _

theorem dealLatch_within (mask : BitVec 24) (s : State) : (dealLatch mask s).Within s := by
  refine ⟨State.onHeads_sheds fun h => ?_, by simp [dealLatch]⟩
  split <;> rfl

theorem dealSnapshot_within (head : Nat) (s : State) : (dealSnapshot head s).Within s := by
  unfold dealSnapshot
  split
  · split
    · rename_i h _ _ _ _
      have emptied : s.Sheds (s.onHead h fun hd => { hd with snapshot := none }) := State.onHead_sheds rfl
      exact ⟨emptied, by simp⟩
    · exact refused_within s _
  · exact refused_within s _

theorem State.clearScope_sheds (scope : Nat) (s : State) : s.Sheds (s.clearScope scope) := by
  unfold State.clearScope
  split
  · exact s.bumpHead_sheds _ _
  · split
    · exact s.bumpPart_sheds _
    · split
      · exact s.bumpPart_sheds _
      · split
        · exact s.bumpPart_sheds _
        · exact .refl s

theorem dealCounters_within (scope : Nat) (clear : Bool) (s : State) : (dealCounters scope clear s).Within s := by
  unfold dealCounters
  split
  · rename_i bytes counts
    have short : bytes.length ≤ 55 := (State.scopeBytes_length counts).trans (by decide)
    cases clear
    · exact ⟨.refl s, short⟩
    · exact ⟨s.clearScope_sheds scope, short⟩
  · exact refused_within s _

theorem dealAttention_within (clear : BitVec 11) (mask : Option (BitVec 11)) (s : State) :
    (dealAttention clear mask s).Within s :=
  ⟨.aside rfl rfl fun _ => rfl, by simp [dealAttention]⟩

/-- A CONFIG-WRITE touches the line configuration alone (R168). -/
theorem dealConfigWrite_within (v : ConfigValue) (s : State) : (dealConfigWrite v s).Within s := by
  cases v with
  | aDis v =>
    simp only [dealConfigWrite, dealADis]
    split
    · exact refused_within s _
    · exact .guarded (s.setTracker_sheds _) _ _
  | levelPair v =>
    simp only [dealConfigWrite, dealLevelPair]
    split
    · exact ⟨.aside rfl rfl fun _ => rfl, Nat.zero_le 55⟩
    · exact refused_within s _
  | _ v =>
    simp only [dealConfigWrite, dealFaultLimit, dealNq, dealDipTolerance, dealValves, dealFlow]
    refine .guarded ?_ _ _
    exact .aside rfl rfl fun _ => rfl

theorem dealConfigRead_within (group : Nat) (s : State) : (dealConfigRead group s).Within s := by
  unfold dealConfigRead
  split
  · have short := State.configBytes_length ‹_›
    exact unchanged_within (by simp; omega) s _
  · exact refused_within s _

/-- No request takes a can in, and every reply fits a frame (R161, R162). -/
theorem dealRequest_within (pins : BitVec 5) (r : Request) (s : State) : (dealRequest pins r s).Within s := by
  cases r with
  | unknown => exact refused_within s _
  | malformed k =>
    refine unchanged_within ?_ s _
    split <;> simp
  | status => exact unchanged_within (by simp) s _
  | mode target => exact dealMode_within target s
  | recipeGas p g => exact dealRecipeGas_within p g s
  | recipeCam p c => exact dealRecipeCam_within p c s
  | recipeDrop p => exact dealRecipeDrop_within p s
  | recipeClear p => exact dealRecipeClear_within p s
  | recipeRead p source half => exact dealRecipeRead_within p source half s
  | headWrite h rc f => exact dealHeadWrite_within h rc f s
  | headRead h => exact dealHeadRead_within h s
  | headStore h => exact dealHeadStore_within h s
  | protect m => exact dealProtect_within m s
  | latch m => exact dealLatch_within m s
  | snapshot h => exact dealSnapshot_within h s
  | counters scope clear => exact dealCounters_within scope clear s
  | attention clear mask => exact dealAttention_within clear mask s
  | configWrite v => exact dealConfigWrite_within v s
  | configRead group => exact dealConfigRead_within group s
  | restart => exact dealRestart_within pins s

theorem takeRequest_sheds (dt : Nat) (tag : Byte) (pins : BitVec 5) (r : Request) (s : State) :
    s.Sheds (takeRequest dt tag r (dealRequest pins r) s) := by
  refine (s.elapse_sheds dt).trans ?_
  unfold takeRequest
  dsimp only
  split
  · have dropped : (s.elapse dt).Sheds (s.elapse dt).dropRequestInHand := .aside rfl rfl fun _ => rfl
    have dealt := dealRequest_within pins r (s.elapse dt).dropRequestInHand
    exact dropped.trans (dealt.state.trans (State.offerReply_sheds dealt.data _))
  · exact .refl _

end Sys2Proof.Machine
end

section
/-! SUPPORT. The pitch mark at the infeed and the taking of a ticket, and with them what every command does to the tickets and
cans: it sheds some, takes one ticket in, or binds one can. -/

namespace Sys2Proof.Machine

/-! ## The pitch mark at the infeed -/

/-- The latch is cleared at a pitch mark (R25). -/
abbrev State.unlatched (s : State) : State := { s with infeed := { s.infeed with latch := false } }

/-- The front ticket leaves the queue at a pitch mark, which clears the latch (R25, R27). -/
abbrev State.leaving (rest : List Ticket) (s : State) : State :=
  { s with infeed := { s.infeed with queue := rest, latch := false } }

/-- At a head that is not IDLE the mark clears the latch and is counted (R25, R26). -/
theorem State.infeedPitch_busy {h : HeadNo} {s : State} (busy : (s.head h).state ≠ .idle) (high : Bool) :
    s.infeedPitch h high = s.unlatched.bumpPart PartCounters.bumpHeadBusy :=
  if_neg busy

/-- At an IDLE head the front ticket leaves the queue: it is dealt with where its can is there in RUN, and else goes out at
once (R27, R30, R32). -/
theorem State.infeedPitch_ticket {h : HeadNo} {s : State} {t : Ticket} {rest : List Ticket}
    (idle : (s.head h).state = .idle) (queue : s.infeed.queue = t :: rest) (high : Bool) :
    s.infeedPitch h high =
      if s.infeed.latch || high then
        if s.mode = .run then (s.leaving rest).dealTicket h t
        else (s.leaving rest).emitAtOnce t h (some .notRunning)
      else (s.leaving rest).emitAtOnce t h none := by
  unfold State.infeedPitch
  simp only [State.setInfeed_head, State.setInfeed_infeed, State.setInfeed_mode, idle, queue, if_true]
  rfl

/-- At an IDLE head with no ticket, a can is counted, and in RUN bound if it can be (R31, R32, R34). -/
theorem State.infeedPitch_empty {h : HeadNo} {s : State} (idle : (s.head h).state = .idle)
    (queue : s.infeed.queue = []) (high : Bool) :
    s.infeedPitch h high =
      if s.infeed.latch || high then
        if s.mode = .run then s.unlatched.untrackedCan h else s.unlatched.countUntracked
      else s.unlatched := by
  have same : s.unlatched = s.setInfeed { queue := [], latch := false, running := s.infeed.running } := by
    rw [← queue]
    rfl
  unfold State.infeedPitch
  simp only [State.setInfeed_head, State.setInfeed_infeed, State.setInfeed_mode, idle, queue, if_true, same]

/-! ## The changes -/

/-- One change that a command makes to the tickets and cans held. -/
inductive Handling : State → State → Prop
  | sheds {s t : State} (shed : s.Sheds t) : Handling s t
  /-- A ticket whose serial is not in use joins a queue with room for it (R21, R22). -/
  | accepts {s t : State} (x : Ticket) (tracked : x.serial ≠ Config.untrackedSerial)
    (unused : s.serialInUse x.serial = false) (room : s.infeed.queue.length < 8)
    (queue : t.infeed.queue = s.infeed.queue ++ [x]) (heads : ∀ h : HeadNo, t.head h = s.head h) (ring : t.ring = s.ring) :
    Handling s t
  /-- A head binds the can of the front ticket, which leaves the queue, or an untracked can (R28, R31). -/
  | binds {s t : State} (h : HeadNo) (n : Nat) (bound : (t.head h).serial = some n)
    (others : ∀ k : HeadNo, k ≠ h → t.head k = s.head k)
    (queue : (∃ x, s.infeed.queue = x :: t.infeed.queue ∧ x.serial = n)
      ∨ (n = Config.untrackedSerial ∧ t.infeed.queue = s.infeed.queue))
    (ring : t.ring = s.ring) : Handling s t

/-- One state comes of another by the changes of `Handling`. -/
abbrev State.Handles (s t : State) : Prop := Relation.ReflTransGen Handling s t

theorem State.Sheds.handles {s t : State} (shed : s.Sheds t) : s.Handles t := .single (.sheds shed)

/-- What every change keeps is kept by all of them together. -/
theorem State.Handles.keeps {P : State → Prop} (keep : ∀ s t, Handling s t → P s → P t) {s t : State} (c : s.Handles t)
    (start : P s) : P t := by
  induction c with
  | refl => exact start
  | tail _ change ih => exact keep _ _ change ih

/-! ## The infeed unit -/

/-- An accepted ticket does not have the untracked serial (R19). -/
theorem ticketOf_tracked {flags : Byte} {p : List Byte} {t : Ticket} (formed : ticketOf flags p = some t) :
    t.serial ≠ Config.untrackedSerial := by
  unfold ticketOf at formed
  dsimp only at formed
  split at formed <;> cases formed
  rename_i good
  exact fun untracked => good (.inr (.inr (.inl untracked)))

theorem State.takeTicket_handling (flags : Byte) (payload : List Byte) (s : State) :
    Handling s (s.takeTicket flags payload) := by
  unfold State.takeTicket
  split
  · exact .sheds (s.bumpPart_sheds _)
  · rename_i t formed
    unfold State.acceptTicket
    split
    · exact .sheds (s.bumpPart_raise_sheds _ _)
    · rename_i unused
      split
      · exact .accepts t (ticketOf_tracked formed) (by simpa using unused) ‹_› rfl (fun _ => rfl) rfl
      · exact .sheds (s.bumpPart_raise_sheds _ _)

theorem State.unlatched_sheds (s : State) : s.Sheds s.unlatched := .aside rfl rfl fun _ => rfl

theorem State.emitLeaving_handles {s : State} {t : Ticket} {rest : List Ticket} (queue : s.infeed.queue = t :: rest)
    (h : HeadNo) (reason : Option Reason) : s.Handles ((s.leaving rest).emitAtOnce t h reason) :=
  have left : s.Sheds (s.leaving rest) := ⟨queue ▸ List.sublist_cons_self t rest, fun _ _ held => held, id⟩
  (left.trans (State.emitAtOnce_sheds t h reason _)).handles

/-- A ticket dealt with leaves the queue, and its can is bound or it goes out at once (R27). -/
theorem State.dealLeaving_handles {s : State} {t : Ticket} {rest : List Ticket} (queue : s.infeed.queue = t :: rest)
    (h : HeadNo) : s.Handles ((s.leaving rest).dealTicket h t) := by
  unfold State.dealTicket
  split
  · split
    · exact State.emitLeaving_handles queue h _
    · refine .single (.binds h t.serial ?_ (fun k other => ?_) (.inl ⟨t, queue, rfl⟩) rfl)
      · rw [State.bindTicket, State.setInfeed_head, State.onHead_head]
        rfl
      · rw [State.bindTicket, State.setInfeed_head, State.onHead_head_ne _ _ other]
        rfl
  · exact State.emitLeaving_handles queue h _

theorem State.countUntracked_sheds (s : State) : s.Sheds s.countUntracked := s.bumpPart_raise_sheds _ _

theorem State.untrackedCan_handles (h : HeadNo) (s : State) : s.Handles (s.untrackedCan h) := by
  refine s.countUntracked_sheds.handles.trans ?_
  unfold State.untrackedCan
  dsimp only
  split
  · split
    · rfl
    · split
      · rfl
      · refine .single (.binds h Config.untrackedSerial ?_ (fun k other => ?_) (.inr ⟨rfl, rfl⟩) rfl)
        · rw [State.onHead_head]
          rfl
        · rw [State.onHead_head_ne _ _ other]
  · rfl

theorem State.infeedPitch_handles (h : HeadNo) (high : Bool) (s : State) : s.Handles (s.infeedPitch h high) := by
  by_cases idle : (s.head h).state = .idle
  · cases queue : s.infeed.queue with
    | nil =>
      rw [State.infeedPitch_empty idle queue]
      refine s.unlatched_sheds.handles.trans ?_
      split
      · split
        · exact State.untrackedCan_handles h _
        · exact (State.countUntracked_sheds _).handles
      · rfl
    | cons t rest =>
      rw [State.infeedPitch_ticket idle queue]
      split
      · split
        · exact State.dealLeaving_handles queue h
        · exact State.emitLeaving_handles queue h _
      · exact State.emitLeaving_handles queue h _
  · rw [State.infeedPitch_busy idle]
    exact (s.unlatched_sheds.trans (State.bumpPart_sheds _ _)).handles

/-! ## The tracker -/

theorem deliver_handles (lines : Lines) (s : State) (a : Arrival) : s.Handles (deliver lines s a) := by
  rcases deliver_cases lines s a with h | ⟨-, h⟩ | ⟨k, e, -, -, h⟩
  · rw [h]
  · rw [h]
    have timed := (s.setTracker_sheds (s.tracker.pitchMark s.now)).trans (State.promoteAtPitch_sheds _)
    exact timed.handles.trans (State.infeedPitch_handles _ _ _)
  · rw [h]
    exact (takePhase_sheds k _ e s).handles

theorem crossOnto_handles (c : Nat) (lines : Lines) (order : List Arrival) (s : State) :
    s.Handles (crossOnto c lines order s) :=
  deliverAll_keeps order (fun a t before => before.trans (deliver_handles lines t a)) (s.setTracker_sheds _).handles

theorem State.forwardEdge_handles (lines : Lines) (order : List Arrival) (s : State) :
    s.Handles (s.forwardEdge lines order) := by
  unfold State.forwardEdge
  dsimp only
  split
  · exact (s.setTracker_sheds _).handles
  · exact (s.setTracker_sheds _).handles.trans (crossOnto_handles _ lines order _)

theorem State.indexMark_handles (lines : Lines) (order6143 order0 : List Arrival) (s : State) :
    s.Handles (s.indexMark lines order6143 order0) := by
  unfold State.indexMark
  dsimp only
  split
  · rfl
  · split
    · split
      · split
        · exact (crossOnto_handles _ lines order6143 s).trans (crossOnto_handles _ lines order0 _)
        · exact crossOnto_handles _ lines order0 s
      · exact (s.setTracker_sheds _).handles
    · split
      · exact (s.setTracker_sheds _).handles
      · exact ((s.setTracker_sheds _).trans (State.takeHalt_sheds _ _)).handles

/-! ## The ring port -/

theorem State.takeBroadcast_sheds (p : List Byte) (s : State) : s.Sheds (s.takeBroadcast p) := by
  unfold State.takeBroadcast
  split
  · exact s.takeMode_sheds _
  · exact .refl s

theorem State.frameIn_sheds (bs : List Byte) (s : State) : s.Sheds (s.frameIn bs) := by
  unfold State.frameIn
  split
  · unfold State.route
    dsimp only
    split
    · exact .aside rfl rfl fun _ => rfl
    · split
      · exact .aside rfl rfl fun _ => rfl
      · split
        · exact (s.takeBroadcast_sheds _).trans (State.offerRelay_sheds _ _)
        · split
          · exact .refl s
          · exact s.offerRelay_sheds bs
  · exact s.bumpPart_raise_sheds _ _

/-! ## Every command -/

/-- A command taken at a head takes no can in, if it keeps that head's serial. -/
theorem State.atHead_handles {h : HeadNo} {f : Head → Head} {s : State} (dt : Nat)
    (kept : (f (s.head h)).serial = (s.head h).serial) : s.Handles ((s.elapse dt).onHead h f) :=
  ((s.elapse_sheds dt).trans (State.onHead_sheds (s := s.elapse dt) kept)).handles

/-- Every command completes, by changes of `Handling`. -/
theorem exec_handles (i : Instr) (s : State) : ∃ t, exec i s = .next t ∧ s.Handles t := by
  rcases brings : i.request with _ | ⟨tag, r⟩
  · have waits : ∀ dt, s.Sheds (s.elapse dt) := s.elapse_sheds
    have after : ∀ dt {t}, (s.elapse dt).Sheds t → s.Handles t := fun dt _ shed => ((waits dt).trans shed).handles
    cases i with
    | reset dt pins => exact ⟨_, rfl, after dt (State.resetPart_sheds pins _)⟩
    | forwardEdge dt lines order => exact ⟨_, rfl, (waits dt).handles.trans (State.forwardEdge_handles lines order _)⟩
    | reverseEdge dt => exact ⟨_, rfl, after dt ((State.setTracker_sheds _ _).trans (State.takeHalt_sheds _ _))⟩
    | indexMark dt lines o1 o0 => exact ⟨_, rfl, (waits dt).handles.trans (State.indexMark_handles lines o1 o0 _)⟩
    | pitchTimerSaturation dt => exact ⟨_, rfl, after dt (State.setTracker_sheds _ _)⟩
    | canPresentEdge dt => exact ⟨_, rfl, after dt (.aside rfl rfl fun _ => rfl)⟩
    | bellPressureSample dt h raw => exact ⟨_, rfl, State.atHead_handles dt (Head.bellSample_serial raw _)⟩
    | crimpForceSample dt h newtons => exact ⟨_, rfl, State.atHead_handles dt (Head.forceSample_serial newtons _)⟩
    | manifoldSample dt raw => exact ⟨_, rfl, after dt (.aside rfl rfl fun _ => rfl)⟩
    | overpressureTrip dt h => exact ⟨_, rfl, State.atHead_handles dt (Head.endGassing_serial _ _ _)⟩
    | sealLevelReport dt h => exact ⟨_, rfl, State.atHead_handles dt (Head.onSealReport_serial _)⟩
    | commandTimerExpiry dt h => exact ⟨_, rfl, State.atHead_handles dt (Head.onCommandExpiry_serial _)⟩
    | sealCheckTimerExpiry dt h => exact ⟨_, rfl, State.atHead_handles dt (Head.onSealExpiry_serial _ _)⟩
    | dwellTimerExpiry dt h gauge => exact ⟨_, rfl, State.atHead_handles dt (Head.onDwellExpiry_serial gauge _)⟩
    | ventPulseTimerExpiry dt h => exact ⟨_, rfl, State.atHead_handles dt (Head.onVentExpiry_serial _ _)⟩
    | resetVentTimerExpiry dt h => exact ⟨_, rfl, State.atHead_handles dt (Head.onResetVentExpiry_serial _)⟩
    | dipTimerExpiry dt =>
      simp only [exec, execDipTimerExpiry]
      split
      · exact ⟨_, rfl, after dt (State.enterLow_sheds _)⟩
      · exact ⟨_, rfl, (waits dt).handles⟩
    | lowEvent dt h => exact ⟨_, rfl, State.atHead_handles dt (Head.endGassing_serial _ _ _)⟩
    | headHalt dt h => exact ⟨_, rfl, State.atHead_handles dt (Head.onHalt_serial _ _)⟩
    | trackerHaltRequest dt cause => exact ⟨_, rfl, after dt (State.takeHalt_sheds _ _)⟩
    | storeOperationTimerExpiry dt =>
      simp only [exec, execStoreOperationTimerExpiry]
      split
      · exact ⟨_, rfl, after dt (.aside rfl rfl fun _ => rfl)⟩
      · exact ⟨_, rfl, (waits dt).handles⟩
    | ringInFrame dt bytes => exact ⟨_, rfl, after dt (State.frameIn_sheds bytes _)⟩
    | infeedTicket dt flags payload =>
      simp only [exec, execInfeedTicket]
      split
      · have dropped : (s.elapse dt).Sheds (s.elapse dt).dropTicketInHand := .aside rfl rfl fun _ => rfl
        exact ⟨_, rfl, (after dt dropped).tail (State.takeTicket_handling flags payload _)⟩
      · exact ⟨_, rfl, (waits dt).handles⟩
    | transmitComplete dt =>
      simp only [exec, execTransmitComplete]
      split
      · exact ⟨_, rfl, after dt (State.endSending_sheds _)⟩
      · exact ⟨_, rfl, (waits dt).handles⟩
    | _ => cases brings
  · exact ⟨_, exec_request brings s, (takeRequest_sheds _ tag _ r s).handles⟩

/-- What every change of the tickets and cans keeps is kept by every step. -/
theorem step_keeps_handled {P : State → Prop} (keep : ∀ s t, Handling s t → P s → P t) {s t : State}
    (taken : step s = .next t) (start : P s) : P t := by
  unfold step at taken
  split at taken
  · cases taken
    exact start
  · rename_i c rest _
    obtain ⟨u, run, handles⟩ := exec_handles c { s with pending := rest }
    obtain rfl : u = t := by
      rw [run] at taken
      exact Host.Outcome.next.inj taken
    have front : s.Sheds { s with pending := rest } := .aside rfl rfl fun _ => rfl
    have all : s.Handles u := front.handles.trans handles
    exact all.keeps keep start

/-! ## The two invariants -/

theorem Handling.keeps_queuesFit (s t : State) (change : Handling s t) (fits : s.QueuesFit) : t.QueuesFit := by
  rw [State.queuesFit_iff] at fits ⊢
  obtain ⟨queue, ring⟩ := fits
  cases change with
  | sheds shed => exact ⟨shed.queue.length_le.trans queue, shed.ring ring⟩
  | accepts x tracked unused room joined heads same =>
    rw [joined, same]
    exact ⟨by simpa using room, ring⟩
  | binds h n bound others left same =>
    rw [same]
    refine ⟨?_, ring⟩
    rcases left with ⟨x, front, -⟩ | ⟨-, kept⟩
    · rw [front] at queue
      exact Nat.le_of_succ_le queue
    · rwa [kept]

/-- Where no ticket and no can is taken in, no serial comes to stand twice. -/
theorem State.Sheds.keeps_serialsFit {s t : State} (shed : s.Sheds t) (fits : s.SerialsFit) : t.SerialsFit := by
  rw [State.serialsFit_iff] at fits ⊢
  obtain ⟨once, apart, heads⟩ := fits
  refine ⟨once.sublist shed.queue, fun x mem => ?_, fun h k n ne held heldThere => ?_⟩
  · obtain ⟨tracked, free⟩ := apart x (shed.queue.subset mem)
    exact ⟨tracked, fun h held => free h (shed.serials h _ held)⟩
  · exact heads h k n ne (shed.serials h n held) (shed.serials k n heldThere)

/-- A ticket joins with a serial that stands nowhere (R21). -/
theorem State.SerialsFit.accepts {s t : State} (fits : s.SerialsFit) {x : Ticket}
    (tracked : x.serial ≠ Config.untrackedSerial) (unused : s.serialInUse x.serial = false)
    (queue : t.infeed.queue = s.infeed.queue ++ [x]) (heads : ∀ h : HeadNo, t.head h = s.head h) : t.SerialsFit := by
  rw [← Bool.not_eq_true, State.serialInUse_iff, not_or] at unused
  obtain ⟨notQueued, notHeld⟩ := unused
  rw [State.serialsFit_iff] at fits ⊢
  obtain ⟨once, apart, cans⟩ := fits
  simp only [queue, heads]
  refine ⟨List.pairwise_append.2 ⟨once, List.pairwise_singleton _ _, fun a mem b new => ?_⟩, fun y mem => ?_, cans⟩
  · obtain rfl := List.mem_singleton.1 new
    exact fun same => notQueued ⟨a, mem, same⟩
  · rcases List.mem_append.1 mem with old | new
    · exact apart y old
    · obtain rfl := List.mem_singleton.1 new
      exact ⟨tracked, fun h held => notHeld ⟨h, Head.mem_serial.1 held⟩⟩

/-- The serial of a can bound at head h goes from the queue to the head, or is the untracked one (R28, R31). -/
theorem State.SerialsFit.binds {s t : State} (fits : s.SerialsFit) {h : HeadNo} {n : Nat}
    (bound : (t.head h).serial = some n) (others : ∀ k : HeadNo, k ≠ h → t.head k = s.head k)
    (queue : (∃ x, s.infeed.queue = x :: t.infeed.queue ∧ x.serial = n)
      ∨ (n = Config.untrackedSerial ∧ t.infeed.queue = s.infeed.queue)) : t.SerialsFit := by
  rw [State.serialsFit_iff] at fits ⊢
  obtain ⟨once, apart, cans⟩ := fits
  have left : t.infeed.queue.Sublist s.infeed.queue := by
    rcases queue with ⟨x, front, -⟩ | ⟨-, kept⟩
    · exact front ▸ List.sublist_cons_self x _
    · exact kept ▸ .refl _
  have notQueued : ∀ y ∈ t.infeed.queue, y.serial ≠ n := by
    rintro y mem rfl
    rcases queue with ⟨x, front, same⟩ | ⟨untracked, -⟩
    · rw [front] at once
      exact List.rel_of_pairwise_cons once mem same
    · exact (apart y (left.subset mem)).1 untracked
  have notHeld : ∀ k : HeadNo, (s.head k).serial = some n → n = Config.untrackedSerial := by
    intro k held
    rcases queue with ⟨x, front, rfl⟩ | ⟨untracked, -⟩
    · exact absurd held ((apart x (front ▸ List.mem_cons_self)).2 k)
    · exact untracked
  have bindsOnly : ∀ (k : HeadNo) (m : Nat), (t.head k).serial = some m →
      (k = h ∧ m = n) ∨ (k ≠ h ∧ (s.head k).serial = some m) := by
    intro k m held
    by_cases own : k = h
    · subst own
      exact .inl ⟨rfl, Option.some.inj (held.symm.trans bound)⟩
    · exact .inr ⟨own, others k own ▸ held⟩
  refine ⟨once.sublist left, fun y mem => ⟨(apart y (left.subset mem)).1, fun k held => ?_⟩,
    fun j k m ne held heldThere => ?_⟩
  · rcases bindsOnly k _ held with ⟨-, same⟩ | ⟨-, old⟩
    · exact notQueued y mem same
    · exact (apart y (left.subset mem)).2 k old
  · rcases bindsOnly j m held with ⟨rfl, rfl⟩ | ⟨-, old⟩
    · exact notHeld k (((bindsOnly k m heldThere).resolve_left fun own => ne own.1.symm).2)
    · rcases bindsOnly k m heldThere with ⟨-, rfl⟩ | ⟨-, oldThere⟩
      · exact notHeld j old
      · exact cans j k m ne old oldThere

theorem Handling.keeps_serialsFit (s t : State) (change : Handling s t) (fits : s.SerialsFit) : t.SerialsFit := by
  cases change with
  | sheds shed => exact shed.keeps_serialsFit fits
  | accepts x tracked unused room queue heads ring => exact fits.accepts tracked unused queue heads
  | binds h n bound others queue ring => exact fits.binds bound others queue

end Sys2Proof.Machine

namespace Sys2Proof.Proofs
open Sys2Proof.Machine

/-- Settles O56: no change that a step is made of takes a queue above its size or leaves a frame waiting. -/
theorem everyStepKeepsTheQueuesBounded : Obligations.EveryStepKeepsTheQueuesBounded := by
  unfold Obligations.EveryStepKeepsTheQueuesBounded
  intro s t fits taken
  exact step_keeps_handled Handling.keeps_queuesFit taken fits

/-- Settles O57: a serial joins the queue only where it stands nowhere, and leaves the queue for the head that binds it. -/
theorem everyStepKeepsSerialsUnique : Obligations.EveryStepKeepsSerialsUnique := by
  unfold Obligations.EveryStepKeepsSerialsUnique
  intro s t fits taken
  exact step_keeps_handled Handling.keeps_serialsFit taken fits

end Sys2Proof.Proofs
end

section
/-! The other statements about tickets and binding, settled. -/

namespace Sys2Proof.Machine

/-! ## Taking a ticket -/

/-- A ticket taken in its turn goes through its checks (R19, R156). -/
theorem exec_infeedTicket_inTurn {s : State} {f : Byte} {p : List Byte} (own : s.ring.own.isSome = true)
    (turn : ∀ x ∈ s.ticketsInHand.head?, x = (f, p)) (dt : Nat) :
    exec (.infeedTicket dt f p) s = .next ((s.elapse dt).dropTicketInHand.takeTicket f p) :=
  if_pos ⟨own, (inTurn_iff _ _).2 turn⟩

/-- A ticket out of its turn is not taken (R22, log entry 6). -/
theorem exec_infeedTicket_outOfTurn {s : State} {f : Byte} {p : List Byte} {x : Byte × List Byte}
    (first : s.ticketsInHand.head? = some x) (other : x ≠ (f, p)) (dt : Nat) :
    exec (.infeedTicket dt f p) s = .next (s.waiting dt) :=
  if_neg fun h => other ((inTurn_iff _ _).1 h.2 x first)

/-- A temperature brought into −100..300 is the nearer end where it lies outside (R20). -/
theorem clamped_temperature (temp : Int) :
    some (max (-100) (min 300 temp))
      = if temp < -100 then some (-100) else if 300 < temp then some 300 else some temp := by
  split
  · rw [Option.some_inj]
    omega
  · split
    · rw [Option.some_inj]
      omega
    · rw [Option.some_inj]
      omega

/-- A part that has taken a ticket from hand uses the serials that it did. -/
theorem State.serialInUse_inHand (n dt : Nat) (s : State) :
    (s.elapse dt).dropTicketInHand.serialInUse n = s.serialInUse n := rfl

/-! ## The binding -/

/-- A disabled head sends the ticket back (R27). -/
theorem State.dealTicket_disabled {h : HeadNo} {s : State} (disabled : (s.head h).entry.enabled = false) (t : Ticket) :
    s.dealTicket h t = s.emitAtOnce t h (some .headDisabled) :=
  if_neg (by simp [disabled])

/-- A ticket whose slot has no live entry is sent back (R27). -/
theorem State.dealTicket_noRecipe {h : HeadNo} {s : State} {t : Ticket} (enabled : (s.head h).entry.enabled = true)
    (empty : (s.slot t.product).live = none) : s.dealTicket h t = s.emitAtOnce t h (some .noRecipe) := by
  simp [State.dealTicket, enabled, empty]

/-- A ticket is bound at an enabled head if its slot has a live entry (R27, R28). -/
theorem State.dealTicket_bound {h : HeadNo} {s : State} {t : Ticket} {r : Recipe}
    (enabled : (s.head h).entry.enabled = true) (live : (s.slot t.product).live = some r) :
    s.dealTicket h t = s.bindTicket h t r := by
  simp [State.dealTicket, enabled, live]

@[simp] theorem State.countUntracked_head (s : State) (h : HeadNo) : s.countUntracked.head h = s.head h := rfl
@[simp] theorem State.countUntracked_infeed (s : State) : s.countUntracked.infeed = s.infeed := rfl
@[simp] theorem State.countUntracked_slot (s : State) (p : SlotNo) : s.countUntracked.slot p = s.slot p := rfl

/-- An untracked can is left unprocessed at a disabled head, with no running product, or with no live entry for it (R31). -/
theorem State.untrackedCan_unbound {h : HeadNo} {s : State}
    (unbound : (s.head h).entry.enabled = false ∨ s.infeed.running = none
      ∨ ∃ p, s.infeed.running = some p ∧ (s.slot p).live = none) : s.untrackedCan h = s.countUntracked := by
  unfold State.untrackedCan
  simp only [State.countUntracked_head, State.countUntracked_infeed, State.countUntracked_slot]
  rcases unbound with disabled | stopped | ⟨p, running, empty⟩
  · exact if_neg (by simp [disabled])
  · simp [stopped]
  · simp [running, empty]

/-- An untracked can is bound at an enabled head on the live recipe of the running product (R31). -/
theorem State.untrackedCan_bound {h : HeadNo} {s : State} {p : SlotNo} {r : Recipe}
    (enabled : (s.head h).entry.enabled = true) (running : s.infeed.running = some p) (live : (s.slot p).live = some r) :
    s.untrackedCan h = s.countUntracked.onHead h (Head.bind (untrackedContext p r (s.slot p).version)) := by
  simp [State.untrackedCan, enabled, running, live]

end Sys2Proof.Machine

namespace Sys2Proof.Proofs
open Sys2Proof.Machine

/-- Settles O16: the form, the serials in use and the room in the queue are asked in turn. -/
theorem infeedTicketChecksInOrder : Obligations.InfeedTicketChecksInOrder := by
  unfold Obligations.InfeedTicketChecksInOrder
  intro dt f p s u serial product fill temp part
  refine ⟨fun ⟨x, first, other⟩ => exec_infeedTicket_outOfTurn first other dt, fun own turn => ?_⟩
  rw [exec_infeedTicket_inTurn own turn]
  refine congrArg Host.Outcome.next ?_
  by_cases bad : p.length ≠ 8 ∨ serial = 0 ∨ serial = 16777215 ∨ 15 < product ∨ 9999 < fill
  · have malformed : ticketOf f p = none := if_pos bad
    rw [if_pos bad, State.takeTicket, malformed]
    rfl
  · have formed : ticketOf f p = some
        { serial := serial, product := Fin.ofNat 16 product, fill := if fill = 0 then none else some fill
          temp := if temp = -32768 then none
            else if temp < -100 then some (-100) else if 300 < temp then some 300 else some temp
          suspect := f.toNat.testBit 0 } := by
      rw [← clamped_temperature]
      exact if_neg bad
    rw [if_neg bad, State.takeTicket, formed]
    simp only [State.acceptTicket, State.serialInUse_inHand, State.serialInUse_iff]
    rfl

/-- Settles O17: the front ticket leaves the queue, and the head's entry and its recipe slot decide. -/
theorem pitchMarkWithATicketInRun : Obligations.PitchMarkWithATicketInRun := by
  unfold Obligations.PitchMarkWithATicketInRun
  intro h high s t rest run idle queue u hd
  rw [State.infeedPitch_ticket idle queue, if_pos run]
  refine ⟨fun latch low => if_neg (by simp [latch, low]), fun can => ?_⟩
  rw [if_pos (Bool.or_eq_true_iff.2 can)]
  exact ⟨fun disabled => State.dealTicket_disabled (s := u) disabled t,
    fun enabled empty => State.dealTicket_noRecipe (s := u) enabled empty,
    fun r enabled live => State.dealTicket_bound (s := u) enabled live⟩

/-- Settles O18: the can is counted, and the head's entry, the running product and its recipe slot decide. -/
theorem pitchMarkWithoutATicketInRun : Obligations.PitchMarkWithoutATicketInRun := by
  unfold Obligations.PitchMarkWithoutATicketInRun
  intro h high s run idle queue u counted hd
  rw [State.infeedPitch_empty idle queue, if_pos run]
  refine ⟨fun latch low => if_neg (by simp [latch, low]), fun can => ?_⟩
  rw [if_pos (Bool.or_eq_true_iff.2 can)]
  exact ⟨fun unbound => State.untrackedCan_unbound (s := u) unbound,
    fun p r enabled running live => State.untrackedCan_bound (s := u) enabled running live⟩

/-- Settles O19: outside RUN, as at a busy head, the mark only counts, or sends the front ticket out. -/
theorem pitchMarkWithoutABind : Obligations.PitchMarkWithoutABind := by
  unfold Obligations.PitchMarkWithoutABind
  intro h high s
  refine ⟨fun busy => State.infeedPitch_busy busy high, fun idle stopped => ?_⟩
  cases queue : s.infeed.queue with
  | nil =>
    rw [State.infeedPitch_empty idle queue, if_neg stopped]
    cases s.infeed.latch || high <;> rfl
  | cons t rest =>
    rw [State.infeedPitch_ticket idle queue, if_neg stopped]
    cases s.infeed.latch || high <;> rfl

/-- Settles O20: a ticket without a reason is counted VOID, and one with its reason by that reason. -/
theorem ticketEmittedAtOnce : Obligations.TicketEmittedAtOnce := by
  unfold Obligations.TicketEmittedAtOnce
  intro t h s bare part
  exact ⟨rfl, fun r => rfl, fun n => rfl⟩

end Sys2Proof.Proofs
end

section
/-! SUPPORT. The requests of the recipe table, each with what it is answered, and its promotion at a pitch mark (R40 to R54). -/

namespace Sys2Proof.Machine

/-! ## A request answered -/

/-- A request command that is admitted is answered with what its owning block makes of it (R162). -/
theorem exec_answers {i : Instr} {kind tag : Byte} {r : Request} {s t : State} {result : Result} {data : List Byte}
    (brings : i.request = some (tag, r)) (echoed : requestKind r = kind) (admits : s.Admits tag r)
    (dealt : dealRequest i.pinsRead r (s.taking i.elapsed) = ⟨t, result, data⟩) :
    exec i s = .next (t.answering kind tag result data) := by
  rw [exec_request brings, takeRequest_admitted admits, dealt, echoed]

/-- A product argument that names a slot is at most 15 (R162). -/
theorem slotNo_some_le {product : Nat} {p : SlotNo} (found : slotNo product = some p) : product ≤ 15 :=
  not_lt.1 fun above => by simp [slotNo_none above] at found

/-! ## The pending entry -/

/-- The slot as it stands once a pending entry is put into it: promoted at once in STANDBY and HALT (R49). -/
def State.pendingSlot (p : SlotNo) (pend : Pending) (s : State) : Slot :=
  if s.mode = .standby ∨ s.mode = .halt then { s.slot p with pending := pend }.promote else { s.slot p with pending := pend }

theorem dealPending_eq (p : SlotNo) (pend : Pending) (s : State) :
    dealPending p pend s = ⟨s.setSlot p (s.pendingSlot p pend), .done, (s.pendingSlot p pend).record⟩ :=
  congrArg (fun sl : Slot => (⟨s.setSlot p (s.pendingSlot p pend), .done, sl.record⟩ : Dealt)) (s.setSlot_slot p _)

/-- Promotion leaves a slot that does not wait (R47). -/
theorem Slot.promote_of_not_waits {sl : Slot} (still : sl.waits = false) : sl.promote = sl := by
  rcases sl.promote_cases with ⟨g, c, complete, -⟩ | ⟨removal, -⟩ | ⟨-, same⟩
  · simp [Slot.waits, complete] at still
  · simp [Slot.waits, removal] at still
  · exact same

/-- A pending entry that holds one half or none stays pending in every mode (R47). -/
theorem State.pendingSlot_stays {p : SlotNo} {pend : Pending} {s : State}
    (still : Slot.waits { s.slot p with pending := pend } = false) :
    s.pendingSlot p pend = { s.slot p with pending := pend } :=
  ite_eq_right_iff.2 fun _ => Slot.promote_of_not_waits still

/-! ## RECIPE-GAS and RECIPE-CAM -/

theorem dealRecipeGas_passes {g : GasHalf} (valid : gasValid g) (p : SlotNo) (s : State) :
    dealRecipeGas p.val g s = dealPending p ((s.slot p).pending.withGas g) s := by
  simp only [dealRecipeGas, slotNo_val, if_pos valid]

theorem dealRecipeCam_passes {c : CamHalf} {s : State} (valid : camValid c s.tracker.aDis) (p : SlotNo) :
    dealRecipeCam p.val c s = dealPending p ((s.slot p).pending.withCam c) s := by
  simp only [dealRecipeCam, slotNo_val, if_pos valid]

theorem dealRecipeGas_refused {product : Nat} {g : GasHalf} (refused : ¬ (product ≤ 15 ∧ gasValid g)) (s : State) :
    dealRecipeGas product g s = unchanged s .badField := by
  unfold dealRecipeGas
  split
  · rename_i p found
    exact if_neg fun valid => refused ⟨slotNo_some_le found, valid⟩
  · rfl

theorem dealRecipeCam_refused {product : Nat} {c : CamHalf} {s : State}
    (refused : ¬ (product ≤ 15 ∧ camValid c s.tracker.aDis)) : dealRecipeCam product c s = unchanged s .badField := by
  unfold dealRecipeCam
  split
  · rename_i p found
    exact if_neg fun valid => refused ⟨slotNo_some_le found, valid⟩
  · rfl

/-! ## RECIPE-DROP and RECIPE-CLEAR -/

theorem dealRecipeDrop_refused {product : Nat} (above : 15 < product) (s : State) :
    dealRecipeDrop product s = unchanged s .badField := by
  simp only [dealRecipeDrop, slotNo_none above]

theorem dealRecipeDrop_slot (p : SlotNo) (s : State) : dealRecipeDrop p.val s = dealPending p .none s := by
  simp only [dealRecipeDrop, slotNo_val]

theorem dealRecipeClear_refused {product : Nat} (above : 15 < product) (s : State) :
    dealRecipeClear product s = unchanged s .badField := by
  simp only [dealRecipeClear, slotNo_none above]

theorem dealRecipeClear_empty {p : SlotNo} {s : State} (live : (s.slot p).live = none) (pending : (s.slot p).pending = .none) :
    dealRecipeClear p.val s = unchanged s .empty := by
  simp [dealRecipeClear, live, pending]

theorem dealRecipeClear_slot {p : SlotNo} {s : State} (held : ¬ ((s.slot p).live = none ∧ (s.slot p).pending = .none)) :
    dealRecipeClear p.val s = dealPending p .removal s := by
  simp only [dealRecipeClear, slotNo_val, Option.isNone_iff_eq_none, if_neg held]

/-! ## RECIPE-READ -/

theorem dealRecipeRead_refused {product source half : Nat} (refused : 15 < product ∨ 1 < source ∨ 1 < half) (s : State) :
    dealRecipeRead product source half s = unchanged s .badField := by
  unfold dealRecipeRead
  split
  · rename_i p found
    have inRange := slotNo_some_le found
    exact if_neg (by omega)
  · rfl

section
variable {p : SlotNo} {source half : Nat} {s : State} (named : source ≤ 1 ∧ half ≤ 1)
include named

theorem dealRecipeRead_held {bytes : List Byte} (held : heldHalf (s.slot p) source half = some bytes) :
    dealRecipeRead p.val source half s = unchanged s .done ((s.slot p).record ++ bytes) := by
  simp only [dealRecipeRead, slotNo_val, if_pos named, held]

theorem dealRecipeRead_notHeld (missing : heldHalf (s.slot p) source half = none) :
    dealRecipeRead p.val source half s = unchanged s .empty (s.slot p).record := by
  simp only [dealRecipeRead, slotNo_val, if_pos named, missing]

end

/-- The live source holds both halves of the live recipe, or none. -/
theorem heldHalf_live (sl : Slot) {half : Nat} (named : half ≤ 1) :
    heldHalf sl 0 half = sl.live.map fun r => if half = 0 then gasBytes r.gas else camBytes r.cam := by
  rcases (by omega : half = 0 ∨ half = 1) with rfl | rfl <;> rfl

theorem heldHalf_pendingGas (sl : Slot) : heldHalf sl 1 0 = sl.pending.gas.map gasBytes := rfl

theorem heldHalf_pendingCam (sl : Slot) : heldHalf sl 1 1 = sl.pending.cam.map camBytes := rfl

/-! ## Promotion at a pitch mark -/

/-- The pitch mark at the infeed leaves the recipe table (R48). -/
theorem State.infeedPitch_slot (h : HeadNo) (high : Bool) (s : State) (p : SlotNo) :
    (s.infeedPitch h high).slot p = s.slot p := by
  obtain ⟨u, hd, r, g, frame⟩ := s.infeedPitch_frame h high
  rw [frame]
  rfl

/-- A pitch mark promotes every slot in RUN and DRAIN, and none outside (R47, R48). -/
theorem State.pitchMark_slot (h : HeadNo) (high : Bool) (s : State) (p : SlotNo) :
    (s.pitchMark h high).slot p = if s.mode = .run ∨ s.mode = .drain then (s.slot p).promote else s.slot p := by
  rw [State.pitchMark, State.infeedPitch_slot, State.promoteAtPitch, State.setTracker_mode]
  split
  · rw [State.promoteAll_slot, State.setTracker_slot]
  · rfl

end Sys2Proof.Machine

namespace Sys2Proof.Proofs
open Sys2Proof.Machine

/-- Settles O24: the table promotes before the infeed unit decides, and the infeed unit leaves the table. -/
theorem pitchMarkPromotes : Obligations.PitchMarkPromotes := by
  unfold Obligations.PitchMarkPromotes
  intro h high s p
  rw [State.pitchMark_slot]
  refine if_congr Iff.rfl ?_ rfl
  cases pending : (s.slot p).pending <;> simp [Slot.promote, pending]

/-- Settles O21: a refused half changes nothing, and one that passes is put beside the half that is held. -/
theorem recipeHalvesAreWritten : Obligations.RecipeHalvesAreWritten := by
  unfold Obligations.RecipeHalvesAreWritten
  intro dt tag product g c s u gasPasses camPasses byGas byCam atOnce
  have cam : camValid c s.tracker.aDis ↔ camPasses := by simp only [camPasses, camValid, anglesBelow, and_assoc]
  have settled : ∀ p pend, pend ≠ .removal → u.pendingSlot p pend = atOnce { s.slot p with pending := pend } := by
    intro p pend kept
    cases pend with
    | removal => exact absurd rfl kept
    | complete g' c' => rfl
    | _ => exact State.pendingSlot_stays rfl
  refine ⟨fun admits refused => ?_, fun admits refused => ?_, ?_⟩
  · exact exec_answers rfl rfl admits (dealRecipeGas_refused refused u)
  · exact exec_answers rfl rfl admits (dealRecipeCam_refused (s := u) fun passes => refused (passes.imp_right cam.1))
  rintro p rfl
  constructor
  · intro admits passes sl
    have put : u.pendingSlot p ((s.slot p).pending.withGas g) = sl :=
      (settled p _ (by cases (s.slot p).pending <;> simp [Pending.withGas])).trans
        (congrArg (fun pend => atOnce { s.slot p with pending := pend }) (by cases (s.slot p).pending <;> rfl))
    rw [← put]
    exact exec_answers rfl rfl admits ((dealRecipeGas_passes passes p u).trans (dealPending_eq p _ u))
  · intro admits passes sl
    have put : u.pendingSlot p ((s.slot p).pending.withCam c) = sl :=
      (settled p _ (by cases (s.slot p).pending <;> simp [Pending.withCam])).trans
        (congrArg (fun pend => atOnce { s.slot p with pending := pend }) (by cases (s.slot p).pending <;> rfl))
    rw [← put]
    exact exec_answers rfl rfl admits ((dealRecipeCam_passes (s := u) (cam.2 passes) p).trans (dealPending_eq p _ u))

/-- Settles O22: both put a pending entry, a drop the empty one and a clear the removal. -/
theorem recipeDropAndClear : Obligations.RecipeDropAndClear := by
  unfold Obligations.RecipeDropAndClear
  intro dt tag product s u byDrop byClear
  refine ⟨fun above => ⟨fun admits => ?_, fun admits => ?_⟩, ?_⟩
  · exact exec_answers rfl rfl admits (dealRecipeDrop_refused above u)
  · exact exec_answers rfl rfl admits (dealRecipeClear_refused above u)
  rintro p rfl
  refine ⟨?_, fun admits live pending => ?_, ?_⟩
  · intro admits sl
    have put : u.pendingSlot p .none = sl := State.pendingSlot_stays rfl
    rw [← put]
    exact exec_answers rfl rfl admits ((dealRecipeDrop_slot p u).trans (dealPending_eq p _ u))
  · exact exec_answers rfl rfl admits (dealRecipeClear_empty (s := u) live pending)
  · intro admits held sl
    exact exec_answers rfl rfl admits ((dealRecipeClear_slot (s := u) held).trans (dealPending_eq p _ u))

/-- Settles O23: the read is answered by whether the named half is held, and the two layouts are those of the request. -/
theorem recipeReadReturnsAHeldHalf : Obligations.RecipeReadReturnsAHeldHalf := by
  unfold Obligations.RecipeReadReturnsAHeldHalf
  intro dt tag product source half s admits u record gasLayout camLayout answer
  have layout : ∀ sl : Slot, sl.record = record sl := by
    rintro ⟨live, pending, version⟩
    cases live <;> cases pending <;> rfl
  refine ⟨fun refused => exec_answers rfl rfl admits (dealRecipeRead_refused refused u), ?_⟩
  rintro p rfl inSource inHalf sl
  have named := And.intro inSource inHalf
  have held : ∀ bytes, heldHalf sl source half = some bytes → answer .done (record sl ++ bytes) := fun bytes held => by
    rw [← layout]
    exact exec_answers rfl rfl admits (dealRecipeRead_held (s := u) named held)
  have missing : heldHalf sl source half = none → answer .empty (record sl) := fun missing => by
    rw [← layout]
    exact exec_answers rfl rfl admits (dealRecipeRead_notHeld (s := u) named missing)
  refine ⟨?_, ?_, ?_⟩
  · rintro rfl live
    exact missing (by rw [heldHalf_live sl inHalf, live]; rfl)
  · rintro r rfl live
    exact held _ (by rw [heldHalf_live sl inHalf, live]; rfl)
  · rintro rfl
    rcases (by omega : half = 0 ∨ half = 1) with rfl | rfl
    · rw [heldHalf_pendingGas] at missing
      simp only [heldHalf_pendingGas] at held
      cases pending : sl.pending with
      | gasOnly g | complete g c => exact held _ (by rw [pending]; rfl)
      | none | camOnly c | removal => exact missing (by rw [pending]; rfl)
    · rw [heldHalf_pendingCam] at missing
      simp only [heldHalf_pendingCam] at held
      cases pending : sl.pending with
      | camOnly c | complete g c => exact held _ (by rw [pending]; rfl)
      | none | gasOnly g | removal => exact missing (by rw [pending]; rfl)

end Sys2Proof.Proofs
end

section
/-! SUPPORT. The discharge of a can: the fault accounting, the offer and the counting of its ticket, and the drain check, each
said once (R91, R131, R135, R137, R138, R149, R158). -/

namespace Sys2Proof.Machine

/-! ## The offer of a ticket -/

/-- The arbiter's choice rests on the ring port alone (R159). -/
theorem State.arbitrate_ring_congr {s t : State} (ring : t.ring = s.ring) : t.arbitrate.ring = s.arbitrate.ring := by
  simp only [State.arbitrate, ring]
  split
  · exact ring
  · split
    · exact ring
    · simp only [State.sendRelay, ring]
    · simp only [State.sendOrigin, ring]
    · split
      · simp only [State.sendRelay, ring]
      · simp only [State.sendOrigin, ring]

theorem State.enterOrigin_ring_congr {s t : State} (ring : t.ring = s.ring) (f : OriginFrame) (q : List OriginFrame) :
    (t.enterOrigin f q).ring = (s.enterOrigin f q).ring :=
  State.arbitrate_ring_congr (by rw [ring])

/-- What a ticket does to the ring port rests on the ring port alone (R158). -/
theorem State.offerTicket_ring_congr {s t : State} (ring : t.ring = s.ring) (x : DischargeTicket) :
    (t.offerTicket x).ring = (s.offerTicket x).ring := by
  simp only [State.offerTicket, ring]
  split
  · exact State.enterOrigin_ring_congr ring _ _
  · split
    · exact State.enterOrigin_ring_congr (s := s.loseReply) (t := t.loseReply) ring _ _
    · exact ring

/-- The report unit after a ticket was offered to a ring port: into a full origin queue a reply is lost, or with no reply there
the ticket itself (R158). -/
def Ring.countLoss (ring : Ring) (r : Report) : Report :=
  if ring.origin.length < 8 then r
  else if ring.origin.any OriginFrame.isReply then
    { r with part := r.part.bumpRepliesLost, flags := r.flags ||| AttentionFlag.replyLost.mark }
  else { r with part := r.part.bumpVerdictsLost, flags := r.flags ||| AttentionFlag.verdictLost.mark }

@[simp] theorem State.enterOrigin_report (s : State) (f : OriginFrame) (q : List OriginFrame) :
    (s.enterOrigin f q).report = s.report := by
  obtain ⟨r, frame⟩ := s.enterOrigin_frame f q
  rw [frame]

theorem State.offerTicket_report (s : State) (x : DischargeTicket) : (s.offerTicket x).report = s.ring.countLoss s.report := by
  unfold State.offerTicket Ring.countLoss
  split
  · exact s.enterOrigin_report _ _
  · split
    · exact s.loseReply.enterOrigin_report _ _
    · rfl

theorem Ring.countLoss_cases (ring : Ring) :
    (∀ r, ring.countLoss r = r)
    ∨ (∀ r, ring.countLoss r
        = { r with part := r.part.bumpRepliesLost, flags := r.flags ||| AttentionFlag.replyLost.mark })
    ∨ ∀ r, ring.countLoss r
        = { r with part := r.part.bumpVerdictsLost, flags := r.flags ||| AttentionFlag.verdictLost.mark } := by
  unfold Ring.countLoss
  split
  · exact .inl fun _ => rfl
  · split
    · exact .inr (.inl fun _ => rfl)
    · exact .inr (.inr fun _ => rfl)

/-! A loss is one of the nine part-wide counters and a flag, and nothing else of the report unit. -/

theorem Ring.countLoss_frame (ring : Ring) (r : Report) :
    ∃ p f, ring.countLoss r = { r with part := p, flags := f } ∧ p.rejects = r.part.rejects := by
  rcases ring.countLoss_cases with same | reply | verdict
  · exact ⟨r.part, r.flags, same r, rfl⟩
  · exact ⟨_, _, reply r, rfl⟩
  · exact ⟨_, _, verdict r, rfl⟩

@[simp] theorem Ring.countLoss_heads (ring : Ring) (r : Report) : (ring.countLoss r).heads = r.heads := by
  obtain ⟨p, f, frame, -⟩ := ring.countLoss_frame r
  rw [frame]

@[simp] theorem Ring.countLoss_faultLimit (ring : Ring) (r : Report) : (ring.countLoss r).faultLimit = r.faultLimit := by
  obtain ⟨p, f, frame, -⟩ := ring.countLoss_frame r
  rw [frame]

@[simp] theorem Ring.countLoss_mask (ring : Ring) (r : Report) : (ring.countLoss r).mask = r.mask := by
  obtain ⟨p, f, frame, -⟩ := ring.countLoss_frame r
  rw [frame]

@[simp] theorem Ring.countLoss_rejects (ring : Ring) (r : Report) :
    (ring.countLoss r).part.rejects = r.part.rejects := by
  obtain ⟨p, f, frame, rejects⟩ := ring.countLoss_frame r
  rw [frame]
  exact rejects

theorem Ring.countLoss_flags_congr (ring : Ring) {r q : Report} (flags : r.flags = q.flags) :
    (ring.countLoss r).flags = (ring.countLoss q).flags := by
  rcases ring.countLoss_cases with same | reply | verdict
  · rw [same, same, flags]
  · simp only [reply, flags]
  · simp only [verdict, flags]

theorem Ring.countLoss_kinds_congr (ring : Ring) {r q : Report} {v : Vector Nat 16}
    (part : r.part = { q.part with rejects := v }) :
    (ring.countLoss r).part.kinds = (ring.countLoss q).part.kinds := by
  rcases ring.countLoss_cases with same | reply | verdict
  · rw [same, same, part]
    rfl
  · rw [reply, reply, part]
    rfl
  · rw [verdict, verdict, part]
    rfl

/-! ## The rejects per reason -/

theorem Reason.code_pos (r : Reason) : 1 ≤ r.code := by cases r <;> decide

theorem Reason.index_ne {a b : Reason} (other : a ≠ b) : (a.index : Nat) ≠ b.index := fun same => by
  have codes : a.code - 1 = b.code - 1 := same
  have := a.code_pos
  have := b.code_pos
  exact other (Reason.code_injective (by omega))

/-- Counting the reasons of a ticket touches the rejects per reason alone. -/
theorem PartCounters.bumpRejects_frame (rs : List Reason) (p : PartCounters) :
    ∃ v, p.bumpRejects rs = { p with rejects := v } := by
  induction rs generalizing p with
  | nil => exact ⟨p.rejects, rfl⟩
  | cons r rs ih =>
    obtain ⟨v, frame⟩ := ih (p.bumpReject r)
    exact ⟨v, frame⟩

theorem PartCounters.bumpReject_rejects (p : PartCounters) (x r : Reason) :
    (p.bumpReject x).rejects[r.index] = if r = x then bump p.rejects[r.index] else p.rejects[r.index] := by
  split
  · subst x
    simp [PartCounters.bumpReject]
  · rename_i other
    simp [PartCounters.bumpReject, Vector.getElem_set_ne, Reason.index_ne (Ne.symm other)]

/-- A reason's counter rises once for a ticket that lists the reason, and else stays (R135). -/
theorem PartCounters.bumpRejects_rejects {rs : List Reason} (once : rs.Nodup) (p : PartCounters) (r : Reason) :
    (p.bumpRejects rs).rejects[r.index] = if r ∈ rs then bump p.rejects[r.index] else p.rejects[r.index] := by
  induction rs generalizing p with
  | nil => rfl
  | cons x rs ih =>
    obtain ⟨new, once⟩ := List.nodup_cons.1 once
    refine (ih once (p.bumpReject x)).trans ?_
    rw [PartCounters.bumpReject_rejects]
    by_cases first : r = x
    · subst first
      simp [new]
    · simp [first]

/-! ## The fault accounting -/

/-- A cycle is faulty when its reasons name NO_SEAL, VENT_INCOMPLETE or CRIMP_FORCE (section 8.6). -/
theorem faultyCycle_iff (rs : List Reason) :
    faultyCycle rs = true ↔ Reason.noSeal ∈ rs ∨ Reason.ventIncomplete ∈ rs ∨ Reason.crimpForce ∈ rs := by
  rw [faultyCycle, List.any_eq_true]
  constructor
  · rintro ⟨r, mem, fault⟩
    cases r <;> simp_all [isHeadFault]
  · rintro (mem | mem | mem)
    · exact ⟨_, mem, rfl⟩
    · exact ⟨_, mem, rfl⟩
    · exact ⟨_, mem, rfl⟩

/-- A discharge disables a head whose run of faults is at the limit already, or reaches it with this cycle (R137, R138). -/
def Head.runsOut (limit : Nat) (faulty : Bool) (hd : Head) : Bool :=
  decide (limit ≤ hd.faults) || (faulty && decide (hd.faults + 1 = limit))

/-- A head after the accounting of a discharge (R137, R138). -/
def Head.account (limit : Nat) (faulty : Bool) (hd : Head) : Head :=
  { hd with
    entry := { hd.entry with enabled := hd.entry.enabled && !hd.runsOut limit faulty }
    faults := if limit ≤ hd.faults then hd.faults else if faulty then hd.faults + 1 else 0 }

/-- The attention flags after the accounting of a discharge at head h (R138). -/
def State.accountedFlags (h : HeadNo) (faulty : Bool) (s : State) : BitVec 11 :=
  s.report.flags ||| if (s.head h).runsOut s.report.faultLimit faulty then 0x040 else 0

theorem State.accountRun_eq (h : HeadNo) (faulty : Bool) (s : State) :
    s.accountRun h faulty = { s.onHead h (Head.account s.report.faultLimit faulty) with
      report := { s.report with flags := s.accountedFlags h faulty } } := by
  unfold State.accountRun
  dsimp only
  split
  · rename_i spent
    simp [State.disableHead, State.onHead_eq, State.raise, AttentionFlag.mark, Head.account, State.accountedFlags,
      Head.runsOut, spent]
  · rename_i under
    cases faulty with
    | true =>
      rw [if_pos rfl]
      split
      · rename_i reached
        simp [State.disableHead, State.onHead_eq, State.raise, AttentionFlag.mark, Head.account, State.accountedFlags,
          Head.runsOut, under, reached]
      · rename_i below
        simp [State.onHead, State.setHead, Head.account, State.accountedFlags, Head.runsOut, under, below]
    | false => simp [State.onHead, State.setHead, Head.account, State.accountedFlags, Head.runsOut, under]

/-- A head's counters after the accounting of a discharge (R137). -/
def HeadCounters.account (faulty : Bool) (k : HeadCounters) : HeadCounters := if faulty then k.bumpFaults else k

theorem State.faultAccounting_eq (h : HeadNo) (reasons : List Reason) (s : State) :
    s.faultAccounting h reasons = { s.onHead h (Head.account s.report.faultLimit (faultyCycle reasons)) with
      report := { s.report with
        heads := s.report.heads.set h (s.report.heads[h].account (faultyCycle reasons))
        flags := s.accountedFlags h (faultyCycle reasons) } } := by
  unfold State.faultAccounting
  dsimp only
  rw [State.accountRun_eq]
  cases faultyCycle reasons
  · simp [HeadCounters.account]
  · rfl

/-- A head's counters after a discharge: one of the two verdicts, and a fault where the cycle was faulty (R135, R137). -/
theorem HeadCounters.bumpDischarge_account (rs : List Reason) (faulty : Bool) (k : HeadCounters) :
    (k.account faulty).bumpDischarge (verdictOf rs) =
      { processed := bump k.processed
        accepted := if rs = [] then bump k.accepted else k.accepted
        rejected := if rs = [] then k.rejected else bump k.rejected
        headFaults := if faulty then bump k.headFaults else k.headFaults } := by
  cases rs <;> cases faulty <;> rfl

/-! ## The report of a can -/

/-- The attention summary that a discharge ticket carries: the flags stand as the accounting left them (R131, R141). -/
def State.accountedSummary (h : HeadNo) (faulty : Bool) (s : State) : Bool :=
  (s.accountedFlags h faulty &&& s.report.mask) != 0

section
variable (h : HeadNo) (c : Context) (s : State)

theorem State.reportCan_eq : s.reportCan h c =
    State.offerTicket (c.ticket h (s.accountedSummary h (faultyCycle c.reasons)))
      { s.onHead h (Head.account s.report.faultLimit (faultyCycle c.reasons)) with
        report := { s.report with
          heads := s.report.heads.set h
            (HeadCounters.bumpDischarge (verdictOf c.reasons) (s.report.heads[h].account (faultyCycle c.reasons)))
          part := s.report.part.bumpRejects c.reasons
          flags := s.accountedFlags h (faultyCycle c.reasons) } } := by
  unfold State.reportCan
  rw [State.faultAccounting_eq]
  simp [State.countDischarged, State.bumpHead, State.bumpPart, Context.ticket, State.summary, State.accountedSummary]

theorem State.reportCan_ring :
    (s.reportCan h c).ring = (s.offerTicket (c.ticket h (s.accountedSummary h (faultyCycle c.reasons)))).ring := by
  rw [State.reportCan_eq]
  refine State.offerTicket_ring_congr ?_ _
  rfl

theorem State.reportCan_head :
    (s.reportCan h c).head h = (s.head h).account s.report.faultLimit (faultyCycle c.reasons) := by
  rw [State.reportCan_eq, State.offerTicket_head]
  exact s.onHead_head h _

theorem State.reportCan_report :
    (s.reportCan h c).report = s.ring.countLoss { s.report with
      heads := s.report.heads.set h
        (HeadCounters.bumpDischarge (verdictOf c.reasons) (s.report.heads[h].account (faultyCycle c.reasons)))
      part := s.report.part.bumpRejects c.reasons
      flags := s.accountedFlags h (faultyCycle c.reasons) } := by
  rw [State.reportCan_eq, State.offerTicket_report]
  rfl

theorem State.reportCan_frame : ∃ hs p r, s.reportCan h c = { s with heads := hs, report := p, ring := r } := by
  rw [State.reportCan_eq]
  obtain ⟨r, p, frame⟩ := State.offerTicket_frame _ _
  exact ⟨_, p, r, frame⟩

end

/-! ## The drain check and the discharge -/

/-- The part once the can of head h is reported and the head is free, before the drain check (R91). -/
abbrev State.discharged (h : HeadNo) (c : Context) (s : State) : State := (s.reportCan h c).onHead h Head.dropContext

theorem dischargeEvent_lifted {h : HeadNo} {s : State} {c : Context} (lifted : (s.head h).state = .lifted)
    (held : (s.head h).ctx = some c) : dischargeEvent h s = (s.discharged h c).drainCheck := by
  simp only [dischargeEvent, lifted, held]

theorem State.discharged_head (h : HeadNo) (c : Context) (s : State) :
    (s.discharged h c).head h = ((s.head h).account s.report.faultLimit (faultyCycle c.reasons)).dropContext := by
  rw [State.discharged, State.onHead_head, State.reportCan_head]

theorem State.discharged_head_ne {h j : HeadNo} (other : j ≠ h) (c : Context) (s : State) :
    (s.discharged h c).head j = s.head j := by
  rw [State.discharged, State.onHead_head_ne _ _ other, State.reportCan_head_ne other]

theorem State.discharged_keeps (h : HeadNo) (c : Context) (s : State) :
    (s.discharged h c).mode = s.mode ∧ (s.discharged h c).haltCause = s.haltCause
    ∧ (s.discharged h c).lineStop = s.lineStop ∧ ∀ p, (s.discharged h c).slot p = s.slot p := by
  obtain ⟨hs, p, r, frame⟩ := s.reportCan_frame h c
  rw [State.discharged, frame]
  exact ⟨rfl, rfl, rfl, fun _ => rfl⟩

theorem State.drainCheck_report (s : State) : s.drainCheck.report = s.report := by
  obtain ⟨m, c, l, rs, frame⟩ := s.drainCheck_frame
  rw [frame]

theorem State.drainCheck_ring (s : State) : s.drainCheck.ring = s.ring := by
  obtain ⟨m, c, l, rs, frame⟩ := s.drainCheck_frame
  rw [frame]

/-- The drain check by whether head h, which holds no context, was the last to hold one: it enters STANDBY, which promotes
(R50, R149). -/
theorem State.drainCheck_last {h : HeadNo} {v : State} {last : Bool} (freed : (v.head h).ctx = none)
    (found : last = true ↔ v.mode = .drain ∧ ∀ j : HeadNo, j ≠ h → (v.head j).ctx = none) :
    v.drainCheck.mode = (if last then .standby else v.mode)
    ∧ v.drainCheck.haltCause = (if last then .none else v.haltCause) ∧ v.drainCheck.lineStop = (v.lineStop && !last)
    ∧ ∀ p : SlotNo, v.drainCheck.slot p = if last then (v.slot p).promote else v.slot p := by
  have empty : (v.mode = .drain ∧ v.noContext = true) ↔ last = true := by
    rw [found, State.noContext_iff]
    refine and_congr_right fun _ => ⟨fun all j _ => all j, fun others j => ?_⟩
    by_cases same : j = h
    · rw [same, freed]
    · exact others j same
  rw [State.drainCheck, if_congr empty rfl rfl]
  cases last <;> simp

/-- Whether a can's ticket has gassing fields: in a head that fits its state, exactly when its gassing began (R132). -/
theorem Head.ContextFits.gasFigures_isSome {hd : Head} {c : Context} (fits : hd.ContextFits) (held : hd.ctx = some c)
    (ended : hd.state ≠ .gassing) : c.gasFigures.isSome = c.start.isSome := by
  obtain ⟨peak, finish, -⟩ := fits.2 c held
  rw [decide_eq_true ended, Bool.and_true] at finish
  unfold Context.gasFigures
  cases start : c.start with
  | none => rfl
  | some g =>
    obtain ⟨p, peak⟩ := Option.isSome_iff_exists.1 (peak.trans (congrArg Option.isSome start))
    obtain ⟨f, finish⟩ := Option.isSome_iff_exists.1 (finish.trans (congrArg Option.isSome start))
    rw [peak, finish]
    rfl

end Sys2Proof.Machine

namespace Sys2Proof.Proofs
open Sys2Proof.Machine

/-- Settles O35: the report of the can in closed form, the head freed, and the drain check by whether it was the last. -/
theorem dischargeReportsAndFreesTheHead : Obligations.DischargeReportsAndFreesTheHead := by
  unfold Obligations.DischargeReportsAndFreesTheHead
  intro h gauge s c lifted held once hd t faulty overrun disables flags k ticket last
  have cycle : faultyCycle c.reasons = faulty := by
    rw [Bool.eq_iff_iff, faultyCycle_iff, decide_eq_true_iff]
  have drawn : c.ticket h (s.accountedSummary h faulty) = ticket := by
    simp only [Context.ticket, verdictOf, List.isEmpty_iff]
    rfl
  let v := s.discharged h c
  have became : t = v.drainCheck := dischargeEvent_lifted lifted held
  have heads : ∀ j, t.head j = v.head j := fun j => became ▸ v.drainCheck_head j
  have freed : v.head h = (hd.account s.report.faultLimit faulty).dropContext := cycle ▸ s.discharged_head h c
  have others : ∀ j, j ≠ h → v.head j = s.head j := fun j other => State.discharged_head_ne other c s
  have lost : t.report = _ := (became ▸ v.drainCheck_report).trans (s.reportCan_report h c)
  rw [cycle] at lost
  obtain ⟨tally, counts⟩ := s.report.part.bumpRejects_frame c.reasons
  obtain ⟨mode, cause, line, slots⟩ := s.discharged_keeps h c
  obtain ⟨toMode, toCause, toLine, toSlots⟩ : _ ∧ _ ∧ _ ∧ _ := State.drainCheck_last (h := h) (v := v) (last := last)
    (by rw [freed]; rfl) (by
      rw [decide_eq_true_iff, mode]
      exact and_congr_right fun _ => forall₂_congr fun j other => by rw [others j other])
  rw [← became] at toMode toCause toLine toSlots
  obtain ⟨_, _, _, _, _, _, _, aside⟩ := dischargeEvent_frame h s
  refine ⟨fun fits => ?_, ?_, fun j other => ⟨?_, ?_⟩, ?_, fun reason => ?_, ?_, ?_, ?_, ?_, ?_, ?_, ?_, ?_, fun q => ?_, ?_⟩
  · rw [← drawn]
    exact fits.gasFigures_isSome held (by rw [lifted]; decide)
  · rw [heads, freed]
    simp only [Head.dropContext, Head.account, decide_eq_true_iff, overrun]
    rfl
  · rw [heads, others j other]
  · simp only [lost, Ring.countLoss_heads]
    exact Vector.getElem_set_ne h.isLt j.isLt fun same => other (Fin.ext same.symm)
  · simp only [lost, Ring.countLoss_heads, ← HeadCounters.bumpDischarge_account]
    exact Vector.getElem_set_self h.isLt
  · simp only [lost, Ring.countLoss_rejects]
    exact PartCounters.bumpRejects_rejects once s.report.part reason
  · rw [became, State.drainCheck_ring, ← drawn, ← cycle]
    exact s.reportCan_ring h c
  · rw [lost, State.offerTicket_report]
    exact s.ring.countLoss_flags_congr rfl
  · rw [lost, State.offerTicket_report]
    exact s.ring.countLoss_kinds_congr counts
  · rw [lost, Ring.countLoss_mask]
  · rw [lost, Ring.countLoss_faultLimit]
  · rw [toMode, mode]
  · rw [toCause, cause]
  · rw [toLine, line]
  · rw [toSlots, slots]
  · rw [show t = _ from aside]
    exact ⟨rfl, rfl, rfl, rfl, rfl, rfl, rfl, rfl, rfl, rfl⟩

end Sys2Proof.Proofs
end

section
/-! SUPPORT. The dose calculator: `round` and `ceil` as the spec describes them, the committed dose and the command time in
closed form, the band of the flow table, and the speed advisory (R57 to R69). -/

namespace Sys2Proof.Machine

/-! ## Rounding -/

theorem roundDiv_of_nonneg {a : Int} (nonneg : 0 ≤ a) (b : Nat) :
    roundDiv a b = ((2 * a.natAbs + b) / (2 * b) : Nat) :=
  if_pos nonneg

/-- `round` of a sum below 0 mirrors that of the sum above 0 (R57). -/
theorem roundDiv_neg {a : Int} (nonneg : 0 ≤ a) {b : Nat} (pos : 0 < b) : roundDiv (-a) b = -roundDiv a b := by
  rcases nonneg.eq_or_lt with rfl | above
  · have half : b / (2 * b) = 0 := Nat.div_eq_of_lt (by omega)
    simp [roundDiv, half]
  · rw [roundDiv_of_nonneg nonneg, roundDiv, if_neg (by omega), Int.natAbs_neg]

/-- From 0 on `round` goes to the nearest whole number, a half upwards (R57). -/
theorem roundDiv_nearest {a : Int} (nonneg : 0 ≤ a) {b : Nat} (pos : 0 < b) :
    2 * a - b < 2 * (roundDiv a b * b) ∧ 2 * (roundDiv a b * b) ≤ 2 * a + b := by
  obtain ⟨m, rfl⟩ := Int.eq_ofNat_of_zero_le nonneg
  rw [roundDiv_of_nonneg nonneg, Int.natAbs_natCast]
  have low := Nat.div_mul_le_self (2 * m + b) (2 * b)
  have high := Nat.lt_div_mul_add (a := 2 * m + b) (b := 2 * b) (by omega)
  rw [mul_left_comm] at low high
  omega

/-- `ceil` is at most n exactly when n whole divisors reach the dividend (R57). -/
theorem ceilDiv_le_iff (a : Nat) {b n : Nat} (pos : 0 < b) : ceilDiv a b ≤ n ↔ a ≤ n * b := by
  have same : ceilDiv a b = a ⌈/⌉ b := (Nat.ceilDiv_eq_add_pred_div a b).symm
  rw [same, ceilDiv_le_iff_le_mul pos, mul_comm]

theorem le_ceilDiv_mul (a : Nat) {b : Nat} (pos : 0 < b) : a ≤ ceilDiv a b * b :=
  (ceilDiv_le_iff a pos).1 le_rfl

/-! ## The committed dose -/

/-- The committed dose is the raw dose brought into the limits (R60). -/
theorem committedDose_eq {g : GasHalf} (limits : g.dMin ≤ g.dMax) (fill : Option Nat) (temp : Option Int)
    (suspect : Bool) :
    (committedDose g fill temp suspect : Int) = max (g.dMin : Int) (min (g.dMax : Int) (rawDose g fill temp suspect)) := by
  unfold committedDose
  dsimp only
  split
  · omega
  · split <;> omega

theorem committedDose_within {g : GasHalf} (valid : gasValid g) (fill : Option Nat) (temp : Option Int)
    (suspect : Bool) : g.dMin ≤ committedDose g fill temp suspect ∧ committedDose g fill temp suspect ≤ g.dMax := by
  have limits : g.dMin ≤ g.dMax := by omega
  have := committedDose_eq limits fill temp suspect
  omega

theorem doseClamped_iff (g : GasHalf) (fill : Option Nat) (temp : Option Int) (suspect : Bool) :
    doseClamped g fill temp suspect = true
      ↔ (committedDose g fill temp suspect : Int) ≠ rawDose g fill temp suspect :=
  decide_eq_true_iff

/-! ## The flow -/

/-- Bands that all lie above Pm leave the band found so far. -/
theorem bandFlow_of_above {pm : Nat} {l : List FlowBand} (above : ∀ b ∈ l, pm < b.floor) (best : Nat) :
    bandFlow pm best l = best := by
  induction l with
  | nil => rfl
  | cons b rest ih =>
    have high := above b List.mem_cons_self
    rw [bandFlow, if_neg (by omega), ih fun x mem => above x (List.mem_cons_of_mem b mem)]

/-- The last band at or below Pm is selected, whatever was found before it (R63, R122). -/
theorem bandFlow_of_highest {pm : Nat} {l : List FlowBand} {k : Nat} (inRange : k < l.length) (below : l[k].floor ≤ pm)
    (above : ∀ (j : Nat) (h : j < l.length), k < j → pm < l[j].floor) (best : Nat) :
    bandFlow pm best l = l[k].flow := by
  induction l generalizing k best with
  | nil => simp at inRange
  | cons b rest ih =>
    rw [bandFlow]
    cases k with
    | zero =>
      have found : b.floor ≤ pm := below
      rw [if_pos found]
      refine bandFlow_of_above (fun x mem => ?_) _
      obtain ⟨j, h, rfl⟩ := List.getElem_of_mem mem
      exact above (j + 1) (Nat.succ_lt_succ h) j.succ_pos
    | succ k =>
      exact ih (Nat.lt_of_succ_lt_succ inRange) below (fun j h later => above (j + 1) (Nat.succ_lt_succ h) (by omega)) _

theorem flowAt_of_highest {table : Vector FlowBand 8} {pm : Nat} {k : Fin 8} (below : table[k].floor ≤ pm)
    (above : ∀ j : Fin 8, k < j → pm < table[j].floor) : flowAt table pm = table[k].flow :=
  bandFlow_of_highest (l := table.toList) (by simp) below
    (fun j h later => above ⟨j, by simpa using h⟩ later) _

theorem flowAt_of_above {table : Vector FlowBand 8} {pm : Nat} (above : ∀ k : Fin 8, pm < table[k].floor) :
    flowAt table pm = table[0].flow := by
  refine bandFlow_of_above (fun b mem => ?_) _
  obtain ⟨i, h, rfl⟩ := Vector.getElem_of_mem (Vector.mem_toList_iff.1 mem)
  exact above ⟨i, h⟩

/-! ## The command time -/

/-- The open time after the lag allowance, at least 1000 µs (R64, steps 2 and 3). -/
theorem unlimitedCommand_eq (dose flow lagOpen lagClose : Nat) :
    (unlimitedCommand dose flow lagOpen lagClose : Int)
      = max 1000 ((openTime dose flow : Int) + lagOpen - lagClose) := by
  unfold unlimitedCommand
  dsimp only
  split <;> omega

theorem doseLimited_iff (dose flow lagOpen lagClose tMax : Nat) :
    doseLimited dose flow lagOpen lagClose tMax = true ↔ tMax < unlimitedCommand dose flow lagOpen lagClose :=
  decide_eq_true_iff

theorem commandTime_le_tMax (dose flow lagOpen lagClose tMax : Nat) :
    commandTime dose flow lagOpen lagClose tMax ≤ tMax :=
  Nat.min_le_right _ _

/-- A command time that Tmax does not limit is the unlimited one (R64, step 4). -/
theorem commandTime_of_not_limited {dose flow lagOpen lagClose tMax : Nat}
    (within : doseLimited dose flow lagOpen lagClose tMax = false) :
    commandTime dose flow lagOpen lagClose tMax = unlimitedCommand dose flow lagOpen lagClose :=
  Nat.min_eq_left (Nat.not_lt.1 (of_decide_eq_false within))

/-- The valve open for the open time at full flow delivers the dose (R64, step 1). -/
theorem dose_le_openTime_mul (dose : Nat) {flow : Nat} (pos : 0 < flow) : dose * 10000 ≤ openTime dose flow * flow :=
  le_ceilDiv_mul _ pos

/-! ## The window and the speed advisory -/

theorem windowShort_iff (cam : CamHalf) (pitch command : Nat) (pValid : Bool) :
    windowShort cam pitch pValid command = true ↔ pValid = true ∧ window cam pitch < command := by
  simp [windowShort]

/-- A pitch at least as long as the advisory's holds the command in its window (R66). -/
theorem command_le_window {cam : CamHalf} {command pitch : Nat} (order : cam.gasStart < cam.gasEnd)
    (long : ceilDiv (command * 256) (cam.gasEnd - cam.gasStart) ≤ pitch) : command ≤ window cam pitch := by
  rw [window, Nat.le_div_iff_mul_le (by decide), mul_comm (cam.gasEnd - cam.gasStart)]
  exact (ceilDiv_le_iff _ (by omega)).1 long

/-- The pitch of an advised speed that is not 0 is at least the shortest that holds the command (R66). -/
theorem ceilDiv_le_advised {cam : CamHalf} {command : Nat} (advised : 0 < advisory cam command) :
    ceilDiv (command * 256) (cam.gasEnd - cam.gasStart) ≤ 60000000 / advisory cam command := by
  rw [Nat.le_div_iff_mul_le advised, mul_comm]
  have speed : advisory cam command ≤ 60000000 / ceilDiv (command * 256) (cam.gasEnd - cam.gasStart) :=
    Nat.min_le_right _ _
  exact (Nat.mul_le_mul_right _ speed).trans (Nat.div_mul_le_self _ _)

/-! ## The delivered estimate -/

/-- A gassing that runs to a command time that Tmax does not limit delivers at least its dose by the estimate (R68). -/
theorem dose_le_deliveredEstimate {dose flow tMax : Nat} {valve : ValveClass} (pos : 0 < flow)
    (within : doseLimited dose flow valve.lagOpen valve.lagClose tMax = false) (now : Nat) (cam : CamHalf) :
    dose ≤ deliveredEstimate (gasStartFigures now dose tMax cam flow valve)
      (commandTime dose flow valve.lagOpen valve.lagClose tMax) := by
  have openTime_le : openTime dose flow
      ≤ effectiveTime (commandTime dose flow valve.lagOpen valve.lagClose tMax) valve.lagOpen valve.lagClose := by
    rw [commandTime_of_not_limited within, effectiveTime]
    have := unlimitedCommand_eq dose flow valve.lagOpen valve.lagClose
    omega
  rw [deliveredEstimate, Nat.le_div_iff_mul_le (by decide)]
  exact (dose_le_openTime_mul dose pos).trans (Nat.mul_le_mul_right flow openTime_le)

theorem isUnderdose_iff (dose dTol delivered : Nat) :
    isUnderdose dose dTol delivered = true ↔ (delivered : Int) < (dose : Int) - dTol :=
  decide_eq_true_iff

theorem isUnderdose_of_dose_le {dose delivered : Nat} (reached : dose ≤ delivered) (dTol : Nat) :
    isUnderdose dose dTol delivered = false :=
  decide_eq_false (by omega)

end Sys2Proof.Machine

namespace Sys2Proof.Proofs
open Sys2Proof.Machine

/-- Settles O25: `round` below 0 mirrors `round` above it, and the committed dose is a maximum of a minimum. -/
theorem committedDoseIsTheClampedRawDose : Obligations.CommittedDoseIsTheClampedRawDose := by
  unfold Obligations.CommittedDoseIsTheClampedRawDose
  refine ⟨fun a b pos => ⟨fun nonneg => roundDiv_nearest nonneg pos, fun nonpos => ?_⟩, ?_⟩
  · have mirror := roundDiv_neg (Int.neg_nonneg_of_nonpos nonpos) pos
    have nearest := roundDiv_nearest (Int.neg_nonneg_of_nonpos nonpos) pos
    rw [neg_neg] at mirror
    rw [mirror, neg_mul]
    omega
  · intro g fill temp suspect valid ch ct raw d
    have limits : g.dMin ≤ g.dMax := by omega
    have rawDose_eq : rawDose g fill temp suspect = raw := by
      cases fill <;> cases temp <;> rfl
    have dose : d = max (g.dMin : Int) (min (g.dMax : Int) raw) := rawDose_eq ▸ committedDose_eq limits fill temp suspect
    rw [doseClamped_iff, rawDose_eq]
    refine ⟨?_, ?_, ?_, ?_, Iff.rfl⟩ <;> omega

/-- Settles O26: the band by the list of bands, the command time by its closed form, the two `ceil`s by what they reach. -/
theorem gasStartFiguresBySteps : Obligations.GasStartFiguresBySteps := by
  unfold Obligations.GasStartFiguresBySteps
  refine ⟨fun table pm => ⟨fun k => flowAt_of_highest, flowAt_of_above⟩, ?_, ?_⟩
  · intro dose flow lagOpen lagClose tMax pos tOpen allowed before
    have unlimited : (unlimitedCommand dose flow lagOpen lagClose : Int) = before :=
      (unlimitedCommand_eq dose flow lagOpen lagClose).trans ((max_comm _ _).trans (max_def_lt _ _))
    refine ⟨⟨dose_le_openTime_mul dose pos, fun n => (ceilDiv_le_iff _ pos).2⟩, ?_, ?_⟩
    · rw [commandTime, ← unlimited]
      split <;> omega
    · rw [doseLimited_iff, ← unlimited, Nat.cast_lt]
  · intro cam pitch command pValid order counts
    have pos : 0 < counts := Nat.sub_pos_of_lt order
    refine ⟨rfl, windowShort_iff cam pitch command pValid, ceilDiv (command * 256) counts,
      ⟨le_ceilDiv_mul _ pos, fun n => (ceilDiv_le_iff _ pos).2⟩, ?_⟩
    have bounded : advisory cam command = min 9999 (60000000 / ceilDiv (command * 256) counts) := rfl
    rw [bounded]
    split <;> omega

/-- Settles O27: the advised pitch is long enough for the window, and the unlimited command for the open time. -/
theorem theCalculatorsPromises : Obligations.TheCalculatorsPromises := by
  unfold Obligations.TheCalculatorsPromises
  refine ⟨fun cam command order _ => ⟨Nat.min_le_left _ _, fun advised => ?_⟩, ?_⟩
  · exact command_le_window order (ceilDiv_le_advised advised)
  · intro now dose dTol tMax flow cam valve pos within g
    have reached : dose ≤ deliveredEstimate g g.command := dose_le_deliveredEstimate pos within now cam
    exact ⟨reached, isUnderdose_of_dose_le reached dTol⟩

end Sys2Proof.Proofs
end

section
/-! SUPPORT. The start and the end of a gassing at one head, by its state (R76 to R82). -/

namespace Sys2Proof.Machine

/-! ## The gas start -/

/-- Outside RUN and DRAIN the part stands in STANDBY or HALT (R144). -/
theorem Mode.stopped_iff (m : Mode) : m ≠ .run ∧ m ≠ .drain ↔ m = .standby ∨ m = .halt := by
  cases m <;> decide

section Sealed
variable {h : HeadNo} {s : State} {c : Context} (sealed : (s.head h).state = .sealed) (held : (s.head h).ctx = some c)
include sealed held

/-- Outside RUN and DRAIN the gas start is skipped, ABORTED (R76, case 1). -/
theorem gasStartEvent_stopped (stopped : s.mode = .standby ∨ s.mode = .halt) :
    gasStartEvent h s = s.onHead h (Head.skipGas .aborted c) := by
  simp only [gasStartEvent, sealed, held]
  exact if_pos ((Mode.stopped_iff _).2 stopped)

/-- In RUN and DRAIN the gas start is skipped with the supply LOW (R76, case 2). -/
theorem gasStartEvent_low (runs : ¬ (s.mode = .standby ∨ s.mode = .halt)) (low : s.supply.state = .low) :
    gasStartEvent h s = s.onHead h (Head.skipGas .supplyLow c) := by
  simp only [gasStartEvent, sealed, held]
  exact (if_neg (mt (Mode.stopped_iff _).1 runs)).trans (if_pos low)

/-- In RUN and DRAIN, with the supply not LOW, the gassing begins (R76, case 3). -/
theorem gasStartEvent_begins (runs : ¬ (s.mode = .standby ∨ s.mode = .halt)) (supplied : s.supply.state ≠ .low) :
    let valve := s.valves[(s.head h).entry.valveClass]
    let flow := flowAt s.supply.flow s.supply.pm
    let figures := gasStartFigures s.now c.dose c.gas.tMax c.cam flow valve
    gasStartEvent h s = s.onHead h (Head.beginGassing s.now figures
      (c.flags.atGasStart (doseLimited c.dose flow valve.lagOpen valve.lagClose c.gas.tMax)
        (windowShort c.cam s.tracker.pitch s.tracker.pValid figures.command) (decide (s.supply.state = .dip))) c) := by
  simp only [gasStartEvent, sealed, held]
  exact (if_neg (mt (Mode.stopped_iff _).1 runs)).trans (if_neg supplied)

end Sealed

/-! ## The gas end -/

/-- The reasons of a can whose gassing ends: UNDERDOSE by the estimate, then the reason of the cause (R69, R77). -/
theorem Context.endGassing_started {c : Context} {g : GasStart} (started : c.start = some g) (cause : GasEndCause)
    (elapsed : Nat) :
    c.endGassing cause elapsed =
      let delivered := (elapsed + g.lagClose - g.lagOpen) * g.flow / 10000
      let reasons := if (delivered : Int) < (c.dose : Int) - c.gas.dTol then addReason .underdose c.reasons else c.reasons
      { c with
        finish := some ⟨elapsed, cause, delivered⟩
        reasons := (cause.reason.map (addReason · reasons)).getD reasons } := by
  simp only [Context.endGassing, started, addReasonIf, isUnderdose_iff]
  rfl

section Gassing
variable {hd : Head} {c : Context} {g : GasStart} (gassing : hd.state = .gassing) (held : hd.ctx = some c)
include gassing held

/-- An end cause taken in GASSING stops the gas, t_el counting from the valve's opening (R68, R77). -/
theorem Head.endGassing_gassing (started : c.start = some g) (cause : GasEndCause) (now : Nat) :
    hd.endGassing cause now = hd.stopGas cause (now - g.openedAt) c := by
  simp only [Head.endGassing, gassing, held, Context.gasElapsed, started]

/-- The command timer's expiry stops the gas with t_el equal to t_cmd (R78). -/
theorem Head.onCommandExpiry_gassing (started : c.start = some g) (runs : hd.commandTimer.isSome = true) :
    hd.onCommandExpiry = hd.stopGas .dosed g.command c := by
  obtain ⟨ends, timer⟩ := Option.isSome_iff_exists.1 runs
  simp only [Head.onCommandExpiry, gassing, held, timer, started, Option.map_some, Option.getD_some]

omit held in
/-- The seal-check timer's expiry with the mark clear ends the gassing NO_SEAL (R80). -/
theorem Head.onSealExpiry_unreached (runs : hd.sealTimer.isSome = true) (clear : hd.sealReached = false) (now : Nat) :
    hd.onSealExpiry now = hd.endGassing .noSeal now := by
  obtain ⟨ends, timer⟩ := Option.isSome_iff_exists.1 runs
  simp only [Head.onSealExpiry, gassing, timer, clear, Bool.false_eq_true, if_false]

end Gassing

end Sys2Proof.Machine

namespace Sys2Proof.Proofs
open Sys2Proof.Machine

/-- Settles O28: the mode decides first, then the supply. -/
theorem gasStartHasThreeOutcomes : Obligations.GasStartHasThreeOutcomes := by
  unfold Obligations.GasStartHasThreeOutcomes
  intro h gauge s c sealed held hd valve flow command
  rw [takePhase]
  split
  · exact gasStartEvent_stopped sealed held ‹_›
  · split
    · exact gasStartEvent_low sealed held ‹_› ‹_›
    · exact gasStartEvent_begins sealed held ‹_› ‹_›

/-- Settles O29: each event stops the gas by its cause, with the message it was taken from, if any, off the head's inbox. -/
theorem theFirstEndCauseEndsTheGassing : Obligations.TheFirstEndCauseEndsTheGassing := by
  unfold Obligations.TheFirstEndCauseEndsTheGassing
  intro dt h gauge s c g gassing held started hd passed ended
  have stops : ∀ (cause : GasEndCause) (tEl : Nat) (inbox : Inbox),
      (s.waiting dt).setHead h ({ hd with inbox := inbox }.stopGas cause tEl c)
        = ended cause tEl (fun rs => (cause.reason.map (addReason · rs)).getD rs) inbox := by
    intro cause tEl inbox
    rw [Head.stopGas, Context.endGassing_started started]
    rfl
  have ends : ∀ (cause : GasEndCause) (inbox : Inbox),
      (s.waiting dt).setHead h ({ hd with inbox := inbox }.endGassing cause (s.now + dt))
        = ended cause passed (fun rs => (cause.reason.map (addReason · rs)).getD rs) inbox := by
    intro cause inbox
    rw [Head.endGassing_gassing (hd := { hd with inbox := inbox }) gassing held started]
    exact stops cause passed inbox
  refine ⟨congrArg _ (ends .overpressure _), congrArg _ (ends .supplyLow _),
    fun runs => congrArg Host.Outcome.next ?_, fun runs clear => congrArg Host.Outcome.next ?_, ends .windowCut _,
    fun q r rs => mem_addReason r q rs⟩
  · refine (congrArg (State.setHead h · (s.waiting dt)) ?_).trans (stops .dosed g.command _)
    exact Head.onCommandExpiry_gassing gassing held started runs
  · refine (congrArg (State.setHead h · (s.waiting dt)) ?_).trans (ends .noSeal _)
    exact Head.onSealExpiry_unreached gassing runs clear _

end Sys2Proof.Proofs
end

section
/-! SUPPORT. The dose, the command time and the reason set of one can context, and what every event of a head does to them
(R60, R64, R128). -/

namespace Sys2Proof.Machine

/-! ## The reason set of a can -/

/-- A can in a head may earn every reason but the three of tickets sent back at once (section 8.1). -/
abbrev Reason.Earned (r : Reason) : Prop := r ≠ .noRecipe ∧ r ≠ .headDisabled ∧ r ≠ .notRunning

/-- What `State.ReasonsFit` says of one reason set. -/
abbrev EarnedReasons (rs : List Reason) : Prop :=
  rs.Pairwise (fun a b => a.code < b.code) ∧ ∀ r ∈ rs, r.Earned

section
variable {rs : List Reason} (fits : EarnedReasons rs)
include fits

theorem EarnedReasons.add {r : Reason} (earned : r.Earned) : EarnedReasons (addReason r rs) := by
  refine ⟨pairwise_addReason r rs fits.1, fun x mem => ?_⟩
  rcases (mem_addReason r x rs).1 mem with rfl | old
  · exact earned
  · exact fits.2 x old

theorem EarnedReasons.addIf {r : Reason} (earned : r.Earned) (p : Bool) : EarnedReasons (addReasonIf p r rs) := by
  cases p
  · exact fits
  · exact fits.add earned

/-- A gassing's end cause adds ABORTED or a reason of the gassing, if it adds one (section 5.3). -/
theorem EarnedReasons.addCause (cause : GasEndCause) :
    EarnedReasons ((cause.reason.map (addReason · rs)).getD rs) := by
  cases cause with
  | dosed => exact fits
  | _ => exact fits.add (by decide)

theorem EarnedReasons.crimp (cam : CamHalf) (r : CrimpResult) : EarnedReasons (crimpReasons cam r rs) :=
  ((fits.addIf (by decide) _).addIf (by decide) _).addIf (by decide) _

end

/-! ## The context -/

/-- What `State.DosesFit` and `State.ReasonsFit` say of one context. -/
structure Context.Sound (c : Context) : Prop where
  dose : c.gas.dMin ≤ c.dose ∧ c.dose ≤ c.gas.dMax
  command : ∀ g ∈ c.start, g.command ≤ c.gas.tMax
  reasons : EarnedReasons c.reasons

/-- The dose, the recipe copy and the gas start stay once they are written, so what an event adds to the reasons decides. -/
theorem Context.Sound.carried {c d : Context} (sound : c.Sound) (gas : d.gas = c.gas) (dose : d.dose = c.dose)
    (start : d.start = c.start) (reasons : EarnedReasons d.reasons) : d.Sound where
  dose := by rw [gas, dose]; exact sound.dose
  command := by rw [gas, start]; exact sound.command
  reasons := reasons

theorem Context.Sound.abort {c : Context} (sound : c.Sound) : c.abort.Sound :=
  sound.carried rfl rfl rfl (sound.reasons.add (by decide))

theorem Context.Sound.endGassing {c : Context} (sound : c.Sound) (cause : GasEndCause) (elapsed : Nat) :
    (c.endGassing cause elapsed).Sound := by
  unfold Context.endGassing
  split
  · exact sound.carried rfl rfl rfl (sound.reasons.addCause cause)
  · exact sound.carried rfl rfl rfl ((sound.reasons.addIf (by decide) _).addCause cause)

/-- A can is bound with the committed dose of a valid gas half and no reason (R28, R60). -/
theorem trackedContext_sound {r : Recipe} (valid : gasValid r.gas) (t : Ticket) (version : Nat) :
    (trackedContext t r version).Sound where
  dose := committedDose_within valid t.fill t.temp t.suspect
  command := nofun
  reasons := ⟨.nil, nofun⟩

/-- An untracked can is bound with the reason UNTRACKED (R31). -/
theorem untrackedContext_sound {r : Recipe} (valid : gasValid r.gas) (p : SlotNo) (version : Nat) :
    (untrackedContext p r version).Sound :=
  have earned : EarnedReasons [.untracked] := by decide
  (trackedContext_sound valid _ version).carried rfl rfl rfl earned

/-! ## The head -/

/-- The context that a head holds, if it holds one, is sound. -/
abbrev Head.Sound (hd : Head) : Prop := ∀ c ∈ hd.ctx, c.Sound

/-- Every head's context is sound. -/
abbrev State.Sound (s : State) : Prop := ∀ h : HeadNo, (s.head h).Sound

theorem State.sound_iff (s : State) : s.Sound ↔ s.DosesFit ∧ s.ReasonsFit :=
  ⟨fun sound => ⟨fun h c held => ⟨(sound h c held).dose, (sound h c held).command⟩,
    fun h c held => (sound h c held).reasons⟩,
   fun ⟨doses, reasons⟩ h c held => ⟨(doses h c held).1, (doses h c held).2, reasons h c held⟩⟩

/-- A head that is given a sound context is sound. -/
theorem Head.Sound.put {new : Head} {c : Context} (put : new.ctx = some c) (sound : c.Sound) : new.Sound := by
  intro d held
  obtain rfl : c = d := Option.some.inj (put.symm.trans held)
  exact sound

/-- A head that drops its context is sound. -/
theorem Head.Sound.empty {new : Head} (empty : new.ctx = none) : new.Sound := by
  intro c held
  simp [empty] at held

section Events
variable {hd : Head} (sound : hd.Sound)
include sound

/-- An event that leaves the context leaves it sound. -/
theorem Head.Sound.same {new : Head} (ctx : new.ctx = hd.ctx) : new.Sound := by
  rwa [Head.Sound, ctx]

theorem Head.Sound.onSeal : hd.onSeal.Sound := by
  unfold Head.onSeal
  split
  · exact sound.same rfl
  · exact sound

theorem Head.Sound.skipGas {c : Context} (held : hd.ctx = some c) {reason : Reason} (earned : reason.Earned) :
    (hd.skipGas reason c).Sound :=
  .put rfl ((sound c held).carried rfl rfl rfl ((sound c held).reasons.add earned))

/-- The command time of a gas start is at most Tmax (R64, step 4). -/
theorem Head.Sound.beginGassing {c : Context} (held : hd.ctx = some c) {figures : GasStart}
    (limited : figures.command ≤ c.gas.tMax) (now : Nat) (flags : InfoFlags) :
    (hd.beginGassing now figures flags c).Sound := by
  obtain ⟨dose, -, reasons⟩ := sound c held
  refine .put rfl ⟨dose, fun g started => ?_, reasons⟩
  cases started
  exact limited

theorem Head.Sound.stopGas {c : Context} (held : hd.ctx = some c) (cause : GasEndCause) (elapsed : Nat) :
    (hd.stopGas cause elapsed c).Sound :=
  .put rfl ((sound c held).endGassing cause elapsed)

theorem Head.Sound.endGassing (cause : GasEndCause) (now : Nat) : (hd.endGassing cause now).Sound := by
  rcases hd.endGassing_cases cause now with h | ⟨c, -, held, h⟩
  · rwa [h]
  · exact h ▸ sound.stopGas held cause _

theorem Head.Sound.onCrimp (now nq : Nat) : (hd.onCrimp now nq).Sound := by
  rcases hd.onCrimp_cases now nq with h | ⟨c, rs, -, held, same | added, h⟩
  · rwa [h]
  · exact h ▸ .put rfl ((sound c held).carried rfl rfl rfl (same ▸ (sound c held).reasons))
  · exact h ▸ .put rfl ((sound c held).carried rfl rfl rfl (added ▸ (sound c held).reasons.add (by decide)))

omit sound in
theorem Head.Sound.beginVent {c : Context} (sound : c.Sound) (now : Nat) (hd : Head) : (hd.beginVent now c).Sound := by
  rcases hd.beginVent_cases now c with h | h <;> rw [h] <;> exact .put rfl sound

theorem Head.Sound.onVent (now : Nat) (gauge : Gauge) : (hd.onVent now gauge).Sound := by
  rcases hd.onVent_cases now gauge with h | ⟨c, -, held, h⟩ | ⟨c, d, -, held, short, h⟩
  · rwa [h]
  · exact h ▸ .beginVent (sound c held) now hd
  · have cut : d.Sound := short ▸ (sound c held).carried rfl rfl rfl ((sound c held).reasons.add (by decide))
    rcases h with h | h <;> rw [h]
    · exact .put rfl cut
    · exact .beginVent cut now _

theorem Head.Sound.onLift : hd.onLift.Sound := by
  unfold Head.onLift
  split
  · rename_i c _ held
    exact .put rfl ((sound c held).carried rfl rfl rfl ((sound c held).reasons.addIf (by decide) _))
  · exact sound

theorem Head.Sound.onCommandExpiry : hd.onCommandExpiry.Sound := by
  rcases hd.onCommandExpiry_cases with h | ⟨c, elapsed, -, held, h⟩
  · rwa [h]
  · exact h ▸ sound.stopGas held .dosed elapsed

theorem Head.Sound.onSealExpiry (now : Nat) : (hd.onSealExpiry now).Sound := by
  rcases hd.onSealExpiry_cases now with h | h | ⟨-, h⟩
  · rwa [h]
  · exact h ▸ sound.endGassing .noSeal now
  · exact h ▸ sound.same rfl

theorem Head.Sound.onSealReport : hd.onSealReport.Sound := by
  unfold Head.onSealReport
  split
  · exact sound.same rfl
  · exact sound

theorem Head.Sound.onDwellExpiry (gauge : Gauge) : (hd.onDwellExpiry gauge).Sound := by
  unfold Head.onDwellExpiry
  split
  · rename_i c _ _ held _
    have crimped := (sound c held).reasons.crimp c.cam (hd.crimpResult gauge)
    dsimp only
    split
    · exact .put rfl ((sound c held).carried rfl rfl rfl crimped)
    · exact .put rfl ((sound c held).carried rfl rfl rfl crimped)
  · exact sound

theorem Head.Sound.onVentExpiry (now : Nat) : (hd.onVentExpiry now).Sound := by
  unfold Head.onVentExpiry
  split
  · exact sound.same rfl
  · split
    · exact sound.same rfl
    · exact sound.same rfl
  · exact sound

theorem Head.Sound.onHalt (now : Nat) : (hd.onHalt now).Sound := by
  rcases hd.onHalt_cases now with h | ⟨c, held, -, h⟩ | ⟨c, held, -, h⟩ | ⟨c, held, -, h⟩
  · rwa [h]
  · exact h ▸ .put rfl (sound c held).abort
  · exact h ▸ .put rfl ((sound c held).endGassing .aborted _)
  · exact h ▸ .put rfl (sound c held).abort

theorem Head.Sound.onResetVentExpiry : hd.onResetVentExpiry.Sound := by
  unfold Head.onResetVentExpiry
  split
  · exact sound.same rfl
  · exact sound

theorem Head.Sound.raisePeak : hd.raisePeak.Sound := by
  rcases hd.raisePeak_cases with h | h
  · rwa [h]
  · rw [h]
    intro d mem
    obtain ⟨c, held, rfl⟩ := Option.mem_map.1 mem
    exact (sound c held).carried rfl rfl rfl (sound c held).reasons

theorem Head.Sound.testComparator : hd.testComparator.Sound := by
  rcases hd.testComparator_cases with h | h
  · rwa [h]
  · exact h ▸ sound.same rfl

theorem Head.Sound.testSealWatch : hd.testSealWatch.Sound := by
  rcases hd.testSealWatch_cases with h | h
  · rwa [h]
  · exact h ▸ sound.same rfl

theorem Head.Sound.bellSample (raw : Int) : (hd.bellSample raw).Sound := by
  have read : Head.Sound { hd with reading := bellReading hd.entry raw } := sound.same rfl
  exact read.raisePeak.testComparator.testSealWatch

theorem Head.Sound.forceSample (newtons : Int) : (hd.forceSample newtons).Sound := by
  obtain ⟨n, q, h⟩ := hd.forceSample_frame newtons
  exact h ▸ sound.same rfl

/-! A message taken leaves the context. -/

theorem Head.Sound.takeTrip : hd.takeTrip.Sound := sound.same rfl
theorem Head.Sound.takeReport : hd.takeReport.Sound := sound.same rfl
theorem Head.Sound.takeLow : hd.takeLow.Sound := sound.same rfl
theorem Head.Sound.takeHaltMessage : hd.takeHaltMessage.Sound := sound.same rfl

end Events

end Sys2Proof.Machine
end

section
/-! SUPPORT. What binds no can: the commands and requests that leave every head's context or drop it (R21, R162). -/

namespace Sys2Proof.Machine

/-- `t` holds no can context that `s` does not, head by head. -/
def State.Drops (s t : State) : Prop := ∀ h : HeadNo, (t.head h).ctx = (s.head h).ctx ∨ (t.head h).ctx = none

theorem State.Drops.trans {s t u : State} (a : s.Drops t) (b : t.Drops u) : s.Drops u := by
  intro h
  rcases b h with same | empty
  · rw [same]
    exact a h
  · exact .inr empty

/-- What leaves every context holds no new one. -/
theorem State.Drops.same {s t : State} (ctx : ∀ h : HeadNo, (t.head h).ctx = (s.head h).ctx) : s.Drops t :=
  fun h => .inl (ctx h)

/-- What leaves every head holds no new context. -/
theorem State.Drops.heads {s t : State} (heads : ∀ h : HeadNo, t.head h = s.head h) : s.Drops t :=
  .same fun h => congrArg Head.ctx (heads h)

theorem State.Drops.refl (s : State) : s.Drops s := .heads fun _ => rfl

/-- A head put back with the context it had. -/
theorem State.onHead_drops {h : HeadNo} {f : Head → Head} {s : State} (kept : (f (s.head h)).ctx = (s.head h).ctx) :
    s.Drops (s.onHead h f) := by
  intro k
  by_cases own : k = h
  · subst own
    exact .inl ((congrArg Head.ctx (s.onHead_head k f)).trans kept)
  · exact .inl (congrArg Head.ctx (s.onHead_head_ne f own))

/-! ## Mode control, the tracker, the supply and the reset -/

theorem State.enterDrain_drops (s : State) : s.Drops s.enterDrain := .heads (State.drainCheck_head _)

theorem State.enterHalt_drops (cause : HaltCause) (s : State) : s.Drops (s.enterHalt cause) :=
  .same fun h => by
    rw [State.enterHalt_head]
    rfl

theorem State.takeHalt_drops (cause : HaltCause) (s : State) : s.Drops (s.takeHalt cause) := by
  rcases s.takeHalt_cases cause with ⟨h, -⟩ | ⟨h, -⟩ <;> rw [h]
  · exact .refl s
  · exact s.enterHalt_drops cause

theorem State.reverseEdge_drops (s : State) : s.Drops s.reverseEdge :=
  have moved : ∀ t, s.Drops (s.setTracker t) := fun _ => .heads fun _ => rfl
  (moved _).trans (State.takeHalt_drops .reverse _)

theorem State.takeMode_drops (target : ModeTarget) (s : State) : s.Drops (s.takeMode target).1 := by
  rcases s.takeMode_cases target with h | ⟨h, -⟩ | ⟨h, -⟩ | ⟨h, -⟩ | ⟨h, -⟩ <;> rw [h]
  · exact .refl s
  · exact .heads fun _ => rfl
  · exact s.enterDrain_drops
  · exact s.enterHalt_drops _
  · exact .heads s.enterStandby_head

theorem State.enterLow_drops (s : State) : s.Drops s.enterLow :=
  .same fun h => by
    rw [State.enterLow_head]
    rfl

/-- A reset empties the heads (R151). -/
theorem State.resetPart_drops (pins : BitVec 5) (s : State) : s.Drops (s.resetPart pins) := fun h => by
  rw [State.resetPart_head]
  exact .inr rfl

/-! ## The ring port and the infeed queue -/

theorem State.offerRelay_drops (f : List Byte) (s : State) : s.Drops (s.offerRelay f) := by
  obtain ⟨r, p, frame⟩ := s.offerRelay_frame f
  rw [frame]
  exact .heads fun _ => rfl

theorem State.offerReply_drops (r : Reply) (s : State) : s.Drops (s.offerReply r) := by
  obtain ⟨g, p, frame⟩ := s.offerReply_frame r
  rw [frame]
  exact .heads fun _ => rfl

theorem State.endSending_drops (s : State) : s.Drops s.endSending := by
  obtain ⟨r, frame⟩ := State.arbitrate_frame { s with ring := { s.ring with transmitter := none } }
  rw [State.endSending, frame]
  exact .heads fun _ => rfl

theorem State.takeBroadcast_drops (p : List Byte) (s : State) : s.Drops (s.takeBroadcast p) := by
  unfold State.takeBroadcast
  split
  · exact s.takeMode_drops _
  · exact .refl s

theorem State.frameIn_drops (bs : List Byte) (s : State) : s.Drops (s.frameIn bs) := by
  unfold State.frameIn
  split
  · unfold State.route
    dsimp only
    split
    · exact .heads fun _ => rfl
    · split
      · exact .heads fun _ => rfl
      · split
        · exact (s.takeBroadcast_drops _).trans (State.offerRelay_drops _ _)
        · split
          · exact .refl s
          · exact s.offerRelay_drops bs
  · exact .heads fun _ => rfl

theorem State.takeTicket_drops (flags : Byte) (payload : List Byte) (s : State) :
    s.Drops (s.takeTicket flags payload) := by
  unfold State.takeTicket
  split
  · exact .heads fun _ => rfl
  · unfold State.acceptTicket
    split
    · exact .heads fun _ => rfl
    · split <;> exact .heads fun _ => rfl

/-! ## The requests -/

/-- A pending entry touches the recipe table alone (R42). -/
theorem dealPending_drops (p : SlotNo) (pend : Pending) (s : State) : s.Drops (dealPending p pend s).state :=
  .heads fun _ => rfl

theorem dealRecipeGas_drops (product : Nat) (g : GasHalf) (s : State) : s.Drops (dealRecipeGas product g s).state := by
  unfold dealRecipeGas
  split
  · split
    · exact dealPending_drops _ _ s
    · exact .refl s
  · exact .refl s

theorem dealRecipeCam_drops (product : Nat) (c : CamHalf) (s : State) : s.Drops (dealRecipeCam product c s).state := by
  unfold dealRecipeCam
  split
  · split
    · exact dealPending_drops _ _ s
    · exact .refl s
  · exact .refl s

theorem dealRecipeDrop_drops (product : Nat) (s : State) : s.Drops (dealRecipeDrop product s).state := by
  unfold dealRecipeDrop
  split
  · exact dealPending_drops _ _ s
  · exact .refl s

theorem dealRecipeClear_drops (product : Nat) (s : State) : s.Drops (dealRecipeClear product s).state := by
  unfold dealRecipeClear
  split
  · split
    · exact .refl s
    · exact dealPending_drops _ _ s
  · exact .refl s

theorem dealHeadWrite_drops (head : Nat) (resetCount : Bool) (f : HeadFields) (s : State) :
    s.Drops (dealHeadWrite head resetCount f s).state := by
  unfold dealHeadWrite
  split
  · split
    · exact .refl s
    · exact State.onHead_drops rfl
  · exact .refl s

theorem dealHeadStore_drops (head : Nat) (s : State) : s.Drops (dealHeadStore head s).state := by
  unfold dealHeadStore
  split
  · split
    · exact .refl s
    · split <;> exact .heads fun _ => rfl
  · exact .refl s

theorem dealProtect_drops (marks : BitVec 4) (s : State) : s.Drops (dealProtect marks s).state := by
  unfold dealProtect
  split
  · exact .refl s
  · split <;> exact .heads fun _ => rfl

/-- A LATCH fills the snapshot slots alone (R165). -/
theorem dealLatch_drops (mask : BitVec 24) (s : State) : s.Drops (dealLatch mask s).state :=
  .same fun h => by
    simp only [dealLatch, State.latchHeads, State.onHeads_head]
    split <;> rfl

theorem dealSnapshot_drops (head : Nat) (s : State) : s.Drops (dealSnapshot head s).state := by
  unfold dealSnapshot
  split
  · split
    · dsimp only
      exact State.onHead_drops rfl
    · exact .refl s
  · exact .refl s

theorem State.clearScope_drops (scope : Nat) (s : State) : s.Drops (s.clearScope scope) := by
  have counted : ∀ f, s.Drops (s.bumpPart f) := fun f => .heads (s.bumpPart_head f)
  unfold State.clearScope
  split
  · exact .heads (s.bumpHead_head _ _)
  · split
    · exact counted _
    · split
      · exact counted _
      · split
        · exact counted _
        · exact .refl s

theorem dealCounters_drops (scope : Nat) (clear : Bool) (s : State) : s.Drops (dealCounters scope clear s).state := by
  unfold dealCounters
  split
  · cases clear
    · exact .refl s
    · exact s.clearScope_drops scope
  · exact .refl s

/-- A CONFIG-WRITE touches the line configuration alone (R168). -/
theorem dealConfigWrite_drops (v : ConfigValue) (s : State) : s.Drops (dealConfigWrite v s).state := by
  cases v with
  | aDis v =>
    simp only [dealConfigWrite, dealADis]
    split
    · exact .refl s
    · split <;> exact .heads fun _ => rfl
  | _ v =>
    simp only [dealConfigWrite, dealFaultLimit, dealNq, dealLevelPair, dealDipTolerance, dealValves, dealFlow]
    split <;> exact .heads fun _ => rfl

theorem dealRestart_drops (pins : BitVec 5) (s : State) : s.Drops (dealRestart pins s).state := by
  unfold dealRestart
  split
  · exact s.resetPart_drops pins
  · exact .refl s

/-- No request binds a can (R162). -/
theorem dealRequest_drops (pins : BitVec 5) (r : Request) (s : State) : s.Drops (dealRequest pins r s).state := by
  cases r with
  | unknown | malformed | status => exact .refl s
  | mode target => exact s.takeMode_drops target
  | recipeGas p g => exact dealRecipeGas_drops p g s
  | recipeCam p c => exact dealRecipeCam_drops p c s
  | recipeDrop p => exact dealRecipeDrop_drops p s
  | recipeClear p => exact dealRecipeClear_drops p s
  | recipeRead p source half => exact .heads fun _ => by rw [dealRequest, dealRecipeRead_state]
  | headWrite h rc f => exact dealHeadWrite_drops h rc f s
  | headRead h => exact .heads fun _ => by rw [dealRequest, dealHeadRead_state]
  | headStore h => exact dealHeadStore_drops h s
  | protect m => exact dealProtect_drops m s
  | latch m => exact dealLatch_drops m s
  | snapshot h => exact dealSnapshot_drops h s
  | counters scope clear => exact dealCounters_drops scope clear s
  | attention clear mask => exact .heads fun _ => rfl
  | configWrite v => exact dealConfigWrite_drops v s
  | configRead group => exact .heads fun _ => by rw [dealRequest, dealConfigRead_state]
  | restart => exact dealRestart_drops pins s

theorem takeRequest_drops (dt : Nat) (tag : Byte) (pins : BitVec 5) (r : Request) (s : State) :
    s.Drops (takeRequest dt tag r (dealRequest pins r) s) := by
  unfold takeRequest
  dsimp only
  split
  · have dropped : s.Drops (s.elapse dt).dropRequestInHand := .heads fun _ => rfl
    exact dropped.trans ((dealRequest_drops pins r _).trans (State.offerReply_drops _ _))
  · exact .heads fun _ => rfl

end Sys2Proof.Machine
end

section
/-! SUPPORT. The doses and the reasons of all cans: what no event binds keeps them, the events of a head keep them, and a can
is bound by a recipe that has passed its check (R39, R60, R64, R128). -/

namespace Sys2Proof.Machine

/-- The gas half of a live recipe has passed its check (R39). -/
theorem State.RecipesFit.gasValid {s : State} (recipes : s.RecipesFit) {p : SlotNo} {r : Recipe}
    (live : (s.slot p).live = some r) : Machine.gasValid r.gas := by
  obtain ⟨-, slots, -⟩ := recipes
  obtain ⟨gas, -⟩ := slots p
  exact gas r live

section
variable {s : State} (sound : s.Sound)
include sound

theorem State.Sound.drops {t : State} (drops : s.Drops t) : t.Sound := by
  intro h
  rcases drops h with same | empty
  · exact (sound h).same same
  · exact .empty empty

theorem State.Sound.onHead {h : HeadNo} {f : Head → Head} (event : (f (s.head h)).Sound) : (s.onHead h f).Sound :=
  State.forall_head_setHead (Q := Head.Sound) sound h event

/-- A command taken at a head. -/
theorem State.Sound.atHead {h : HeadNo} {f : Head → Head} (event : (f (s.head h)).Sound) (dt : Nat) :
    ((s.elapse dt).onHead h f).Sound :=
  State.Sound.onHead (s := s.elapse dt) sound event

/-! ## The phase events -/

theorem gasStartEvent_sound (h : HeadNo) : (gasStartEvent h s).Sound := by
  unfold gasStartEvent
  split
  · rename_i c _ held
    split
    · exact sound.onHead ((sound h).skipGas held (by decide))
    · split
      · exact sound.onHead ((sound h).skipGas held (by decide))
      · exact sound.onHead ((sound h).beginGassing held (commandTime_le_tMax _ _ _ _ _) _ _)
  · exact sound

/-- A discharge drops the can of its own head (R91). -/
theorem dischargeEvent_sound (h : HeadNo) : (dischargeEvent h s).Sound := by
  unfold dischargeEvent
  split
  · intro k
    rw [State.drainCheck_head]
    by_cases own : k = h
    · rw [own, State.onHead_head]
      exact .empty rfl
    · rw [State.onHead_head_ne _ _ own, State.reportCan_head_ne own]
      exact sound k
  · exact sound

theorem takePhase_sound (h : HeadNo) (gauge : Gauge) (e : PhaseEvent) : (takePhase h gauge e s).Sound := by
  cases e with
  | sealing => exact sound.onHead (sound h).onSeal
  | gasStart => exact gasStartEvent_sound sound h
  | gasEnd => exact sound.onHead ((sound h).endGassing _ _)
  | crimp => exact sound.onHead ((sound h).onCrimp _ _)
  | vent => exact sound.onHead ((sound h).onVent _ _)
  | lift => exact sound.onHead (sound h).onLift
  | discharge => exact dischargeEvent_sound sound h

/-! ## The pitch mark -/

theorem State.emitAtOnce_sound (t : Ticket) (h : HeadNo) (reason : Option Reason) : (s.emitAtOnce t h reason).Sound :=
  sound.drops (.heads (s.emitAtOnce_head t h reason))

/-- A can is bound by the live recipe of its slot, which has passed its check (R28, R39). -/
theorem State.dealTicket_sound (recipes : s.RecipesFit) (h : HeadNo) (t : Ticket) : (s.dealTicket h t).Sound := by
  unfold State.dealTicket
  split
  · split
    · exact State.emitAtOnce_sound sound t h _
    · rename_i r live
      have bound : (s.onHead h (Head.bind (trackedContext t r (s.slot t.product).version))).Sound :=
        sound.onHead (.put rfl (trackedContext_sound (recipes.gasValid live) t _))
      exact bound.drops (.heads fun _ => rfl)
  · exact State.emitAtOnce_sound sound t h _

/-- An untracked can is bound by the live recipe of the running product (R31). -/
theorem State.untrackedCan_sound (recipes : s.RecipesFit) (h : HeadNo) : (s.untrackedCan h).Sound := by
  have counted : s.countUntracked.Sound := sound.drops (.heads s.countUntracked_head)
  unfold State.untrackedCan
  dsimp only
  split
  · split
    · exact counted
    · split
      · exact counted
      · rename_i live
        exact counted.onHead (.put rfl (untrackedContext_sound (recipes.gasValid live) _ _))
  · exact counted

theorem State.infeedPitch_sound (recipes : s.RecipesFit) (h : HeadNo) (high : Bool) : (s.infeedPitch h high).Sound := by
  by_cases idle : (s.head h).state = .idle
  · cases queue : s.infeed.queue with
    | nil =>
      have unlatched : s.unlatched.Sound := sound
      rw [State.infeedPitch_empty idle queue]
      split
      · split
        · exact State.untrackedCan_sound unlatched recipes h
        · exact unlatched.drops (.heads s.unlatched.countUntracked_head)
      · exact unlatched
    | cons t rest =>
      have left : (s.leaving rest).Sound := sound
      rw [State.infeedPitch_ticket idle queue]
      split
      · split
        · exact State.dealTicket_sound left recipes h t
        · exact State.emitAtOnce_sound left t h _
      · exact State.emitAtOnce_sound left t h _
  · rw [State.infeedPitch_busy idle]
    exact sound

theorem State.pitchMark_sound (recipes : s.RecipesFit) (h : HeadNo) (high : Bool) : (s.pitchMark h high).Sound := by
  have crosses : s.Crosses (s.setTracker (s.tracker.pitchMark s.now)).promoteAtPitch :=
    .trans (.single (.pitchMark s)) (State.promoteAtPitch_crosses _)
  have promoted : (s.setTracker (s.tracker.pitchMark s.now)).promoteAtPitch.Sound :=
    sound.drops (.heads (State.promoteAtPitch_head _))
  exact State.infeedPitch_sound promoted (crosses.keeps (fun _ _ change => change.keeps_recipesFit) recipes) h high

/-! ## The crossing -/

theorem deliver_sound (recipes : s.RecipesFit) (lines : Lines) (a : Arrival) : (deliver lines s a).Sound := by
  rcases deliver_cases lines s a with h | ⟨-, h⟩ | ⟨k, e, -, -, h⟩ <;> rw [h]
  · exact sound
  · exact State.pitchMark_sound sound recipes _ _
  · exact takePhase_sound sound k _ e

end

/-- A sound part with its recipes valid: what a crossing keeps from one event to the next. -/
abbrev State.BindsSound (s : State) : Prop := s.RecipesFit ∧ s.Sound

section
variable {s : State} (fits : s.BindsSound)
include fits

/-- What moves the tracker, but not the discharge angle, leaves the recipes and the cans. -/
theorem State.BindsSound.setTracker {t : Tracker} (aDis : t.aDis = s.tracker.aDis) : (s.setTracker t).BindsSound :=
  ⟨fits.1.same aDis (fun _ => rfl) (.inl rfl), fits.2⟩

/-- A crossing, whatever the order of its events (R11). -/
theorem crossOnto_bindsSound (c : Nat) (lines : Lines) (order : List Arrival) :
    (crossOnto c lines order s).BindsSound :=
  deliverAll_keeps order
    (fun a t ⟨recipes, sound⟩ => ⟨(deliver_crosses lines t a).keeps (fun _ _ change => change.keeps_recipesFit) recipes,
      deliver_sound sound recipes lines a⟩)
    (fits.setTracker rfl)

theorem State.forwardEdge_sound (lines : Lines) (order : List Arrival) : (s.forwardEdge lines order).Sound := by
  unfold State.forwardEdge
  dsimp only
  split
  · exact fits.2
  · have forward : (s.setTracker { s.tracker with direction := .forward }).BindsSound := fits.setTracker rfl
    exact (crossOnto_bindsSound forward _ lines order).2

theorem State.indexMark_sound (lines : Lines) (order6143 order0 : List Arrival) :
    (s.indexMark lines order6143 order0).Sound := by
  have moved : ∀ t, (s.setTracker t).Sound := fun _ => fits.2
  unfold State.indexMark
  dsimp only
  split
  · exact fits.2
  · split
    · split
      · split
        · exact (crossOnto_bindsSound (crossOnto_bindsSound fits _ lines order6143) _ lines order0).2
        · exact (crossOnto_bindsSound fits _ lines order0).2
      · exact moved _
    · split
      · exact moved _
      · exact (moved _).drops (State.takeHalt_drops _ _)

/-! ## Every command -/

/-- Every command completes and keeps the cans sound. -/
theorem exec_sound (i : Instr) : ∃ t, exec i s = .next t ∧ t.Sound := by
  obtain ⟨recipes, sound⟩ := id fits
  rcases brings : i.request with _ | ⟨tag, r⟩
  · have waits : ∀ dt, (s.elapse dt).BindsSound := fun dt => ⟨recipes.same rfl (fun _ => rfl) (.inl rfl), sound⟩
    have after : ∀ dt {t}, (s.elapse dt).Drops t → t.Sound := fun dt _ drops => (waits dt).2.drops drops
    cases i with
    | reset dt pins => exact ⟨_, rfl, after dt (State.resetPart_drops pins _)⟩
    | forwardEdge dt lines order => exact ⟨_, rfl, State.forwardEdge_sound (waits dt) lines order⟩
    | reverseEdge dt => exact ⟨_, rfl, after dt (State.reverseEdge_drops _)⟩
    | indexMark dt lines o1 o0 => exact ⟨_, rfl, State.indexMark_sound (waits dt) lines o1 o0⟩
    | pitchTimerSaturation dt => exact ⟨_, rfl, sound⟩
    | canPresentEdge dt => exact ⟨_, rfl, sound⟩
    | bellPressureSample dt h raw => exact ⟨_, rfl, sound.atHead ((sound h).bellSample raw) dt⟩
    | crimpForceSample dt h newtons => exact ⟨_, rfl, sound.atHead ((sound h).forceSample newtons) dt⟩
    | manifoldSample dt raw => exact ⟨_, rfl, sound⟩
    | overpressureTrip dt h => exact ⟨_, rfl, sound.atHead ((sound h).takeTrip.endGassing _ _) dt⟩
    | sealLevelReport dt h => exact ⟨_, rfl, sound.atHead (sound h).takeReport.onSealReport dt⟩
    | commandTimerExpiry dt h => exact ⟨_, rfl, sound.atHead (sound h).onCommandExpiry dt⟩
    | sealCheckTimerExpiry dt h => exact ⟨_, rfl, sound.atHead ((sound h).onSealExpiry _) dt⟩
    | dwellTimerExpiry dt h gauge => exact ⟨_, rfl, sound.atHead ((sound h).onDwellExpiry gauge) dt⟩
    | ventPulseTimerExpiry dt h => exact ⟨_, rfl, sound.atHead ((sound h).onVentExpiry _) dt⟩
    | resetVentTimerExpiry dt h => exact ⟨_, rfl, sound.atHead (sound h).onResetVentExpiry dt⟩
    | dipTimerExpiry dt =>
      simp only [exec, execDipTimerExpiry]
      split
      · exact ⟨_, rfl, after dt (State.enterLow_drops _)⟩
      · exact ⟨_, rfl, sound⟩
    | lowEvent dt h => exact ⟨_, rfl, sound.atHead ((sound h).takeLow.endGassing _ _) dt⟩
    | headHalt dt h => exact ⟨_, rfl, sound.atHead ((sound h).takeHaltMessage.onHalt _) dt⟩
    | trackerHaltRequest dt cause => exact ⟨_, rfl, after dt (State.takeHalt_drops _ _)⟩
    | storeOperationTimerExpiry dt =>
      simp only [exec, execStoreOperationTimerExpiry]
      split <;> exact ⟨_, rfl, sound⟩
    | ringInFrame dt bytes => exact ⟨_, rfl, after dt (State.frameIn_drops bytes _)⟩
    | infeedTicket dt flags payload =>
      simp only [exec, execInfeedTicket]
      split
      · have dropped : (s.elapse dt).dropTicketInHand.Sound := sound
        exact ⟨_, rfl, dropped.drops (State.takeTicket_drops flags payload _)⟩
      · exact ⟨_, rfl, sound⟩
    | transmitComplete dt =>
      simp only [exec, execTransmitComplete]
      split
      · exact ⟨_, rfl, after dt (State.endSending_drops _)⟩
      · exact ⟨_, rfl, sound⟩
    | _ => cases brings
  · exact ⟨_, exec_request brings s, sound.drops (takeRequest_drops _ tag _ r s)⟩

end

/-- Every step keeps the cans sound, where the recipes are valid. -/
theorem step_sound {s t : State} (fits : s.BindsSound) (taken : step s = .next t) : t.Sound := by
  unfold step at taken
  split at taken
  · cases taken
    exact fits.2
  · rename_i c rest _
    have front : State.BindsSound { s with pending := rest } := fits
    obtain ⟨u, run, sound⟩ := exec_sound front c
    rw [run] at taken
    exact Host.Outcome.next.inj taken ▸ sound

end Sys2Proof.Machine

namespace Sys2Proof.Proofs
open Sys2Proof.Machine

/-- Settles O55: a can is bound within the limits, and no event of a head takes it out of them. -/
theorem everyStepKeepsDosesAndReasonsFit : Obligations.EveryStepKeepsDosesAndReasonsFit := by
  unfold Obligations.EveryStepKeepsDosesAndReasonsFit
  intro s t recipes doses reasons taken
  exact t.sound_iff.1 (step_sound ⟨recipes, s.sound_iff.2 ⟨doses, reasons⟩⟩ taken)

end Sys2Proof.Proofs
end

section
/-! SUPPORT. One head against the table of section 5.1: every event that a head can take, named once, and what each does to a
head whose outputs, context and timers follow its state (R73, R74). -/

namespace Sys2Proof.Machine

/-- One event taken at a head, whatever command brings it. `feeds` stands for what lets a gassing begin (R76). -/
inductive HeadEvent (feeds : Prop) : Head → Head → Prop
  /-- What follows no state: the entry, the fault count, the snapshot slot and the messages in flight. -/
  | aside (hd : Head) (entry : HeadEntry) (faults : Nat) (snapshot : Option Snapshot) (inbox : Inbox) :
    HeadEvent feeds hd { hd with entry := entry, faults := faults, snapshot := snapshot, inbox := inbox }
  | reset (hd : Head) (entry : HeadEntry) (ends : Nat) : HeadEvent feeds hd (Head.afterReset entry ends)
  /-- A can is bound whose gassing has not begun (section 2.5). -/
  | bind {hd : Head} {c : Context} (idle : hd.state = .idle) (start : c.start = none) (finish : c.finish = none)
    (peak : c.peak = none) : HeadEvent feeds hd (hd.bind c)
  | sealing (hd : Head) : HeadEvent feeds hd hd.onSeal
  | skipGas {hd : Head} {c : Context} (reason : Reason) (sealed : hd.state = .sealed) (held : hd.ctx = some c) :
    HeadEvent feeds hd (hd.skipGas reason c)
  | beginGassing {hd : Head} {c : Context} (fed : feeds) (sealed : hd.state = .sealed) (now : Nat)
    (figures : GasStart) (flags : InfoFlags) (held : hd.ctx = some c) :
    HeadEvent feeds hd (hd.beginGassing now figures flags c)
  | endGassing (hd : Head) (cause : GasEndCause) (now : Nat) : HeadEvent feeds hd (hd.endGassing cause now)
  | commandExpiry (hd : Head) : HeadEvent feeds hd hd.onCommandExpiry
  | sealExpiry (hd : Head) (now : Nat) : HeadEvent feeds hd (hd.onSealExpiry now)
  | sealReport (hd : Head) : HeadEvent feeds hd hd.onSealReport
  | crimp (hd : Head) (now nq : Nat) : HeadEvent feeds hd (hd.onCrimp now nq)
  | dwellExpiry (hd : Head) (gauge : Gauge) : HeadEvent feeds hd (hd.onDwellExpiry gauge)
  | vent (hd : Head) (now : Nat) (gauge : Gauge) : HeadEvent feeds hd (hd.onVent now gauge)
  | ventExpiry (hd : Head) (now : Nat) : HeadEvent feeds hd (hd.onVentExpiry now)
  | lift (hd : Head) : HeadEvent feeds hd hd.onLift
  | discharge {hd : Head} (lifted : hd.state = .lifted) : HeadEvent feeds hd hd.dropContext
  | halt (hd : Head) (now : Nat) : HeadEvent feeds hd (hd.onHalt now)
  | resetVentExpiry (hd : Head) : HeadEvent feeds hd hd.onResetVentExpiry
  | bellSample (hd : Head) (raw : Int) : HeadEvent feeds hd (hd.bellSample raw)
  | forceSample (hd : Head) (newtons : Int) : HeadEvent feeds hd (hd.forceSample newtons)

/-! ## The events against the table -/

/-- The table of section 5.1, read flat. -/
theorem Head.fits_iff (hd : Head) : hd.Fits ↔
    (hd.gasValve = decide (hd.state = .gassing) ∧ hd.ventValve = hd.ventOn ∧ hd.collet = decide (hd.state = .crimping)
      ∧ (hd.state ≠ .venting → hd.clamp = hd.state.clampOn))
    ∧ (hd.ctx.isSome = decide (hd.state ≠ .idle)
      ∧ ∀ c ∈ hd.ctx, c.peak.isSome = c.start.isSome
        ∧ c.finish.isSome = (c.start.isSome && decide (hd.state ≠ .gassing))
        ∧ (hd.state = .gassing → c.start.isSome = true) ∧ (hd.state = .bound ∨ hd.state = .sealed → c.start = none))
    ∧ hd.commandTimer.isSome = decide (hd.state = .gassing) ∧ (hd.sealTimer.isSome = true → hd.state = .gassing)
    ∧ hd.dwellTimer.isSome = decide (hd.state = .crimping) ∧ hd.ventTimer.isSome = hd.ventMode.timed
    ∧ (hd.ventMode = .off ↔ hd.state ≠ .venting) ∧ (hd.resetVentTimer.isSome = true → hd.state = .idle)
    ∧ (hd.comparator.isSome = true → hd.state = .gassing) ∧ (hd.sealWatch.isSome = true → hd.state = .gassing)
    ∧ hd.qualification.isSome = decide (hd.state = .crimping) := Iff.rfl

theorem Head.afterReset_fits (entry : HeadEntry) (ends : Nat) : (Head.afterReset entry ends).Fits := by
  simp [Head.fits_iff, Head.afterReset, Head.ventOn, HeadState.clampOn, VentMode.timed]

theorem Context.endGassing_start (cause : GasEndCause) (elapsed : Nat) (c : Context) :
    (c.endGassing cause elapsed).start = c.start := by
  unfold Context.endGassing
  split <;> rfl

theorem Context.endGassing_finish (cause : GasEndCause) (elapsed : Nat) {c : Context} (began : c.start.isSome = true) :
    (c.endGassing cause elapsed).finish.isSome = true := by
  obtain ⟨g, started⟩ := Option.isSome_iff_exists.1 began
  rw [Context.endGassing_started started]
  rfl

/-- A can outside GASSING: if its gassing began, it has a peak and is over (R67, R77, R102). -/
structure Context.GasOver (c : Context) : Prop where
  peak : c.peak.isSome = c.start.isSome
  finish : c.finish.isSome = c.start.isSome

section Fits
variable {hd : Head} (fits : hd.Fits)
include fits

theorem Head.Fits.gasOver {c : Context} (held : hd.ctx = some c) (apart : hd.state ≠ .gassing) : c.GasOver := by
  constructor <;> simp_all [Head.fits_iff]

theorem Head.Fits.onSeal : hd.onSeal.Fits := by
  unfold Head.onSeal
  split
  · simp_all [Head.fits_iff, Head.ventOn, HeadState.clampOn]
  · exact fits

theorem Head.Fits.skipGas {c : Context} (sealed : hd.state = .sealed) (held : hd.ctx = some c) (reason : Reason) :
    (hd.skipGas reason c).Fits := by
  simp_all [Head.fits_iff, Head.skipGas, Head.ventOn, HeadState.clampOn]

theorem Head.Fits.beginGassing {c : Context} (sealed : hd.state = .sealed) (held : hd.ctx = some c) (now : Nat)
    (figures : GasStart) (flags : InfoFlags) : (hd.beginGassing now figures flags c).Fits := by
  have unended := (fits.gasOver held (by simp [sealed])).finish
  simp_all [Head.fits_iff, Head.beginGassing, Head.armGassing, Head.ventOn, HeadState.clampOn]

theorem Head.Fits.stopGas {c : Context} (gassing : hd.state = .gassing) (held : hd.ctx = some c) (cause : GasEndCause)
    (elapsed : Nat) : (hd.stopGas cause elapsed c).Fits := by
  simp_all [Head.fits_iff, Head.stopGas, Head.disarm, Head.ventOn, HeadState.clampOn,
    Context.endGassing_start, Context.endGassing_finish]

theorem Head.Fits.endGassing (cause : GasEndCause) (now : Nat) : (hd.endGassing cause now).Fits := by
  rcases hd.endGassing_cases cause now with h | ⟨c, gassing, held, h⟩
  · rwa [h]
  · exact h ▸ fits.stopGas gassing held cause _

theorem Head.Fits.onCommandExpiry : hd.onCommandExpiry.Fits := by
  rcases hd.onCommandExpiry_cases with h | ⟨c, elapsed, gassing, held, h⟩
  · rwa [h]
  · exact h ▸ fits.stopGas gassing held .dosed elapsed

theorem Head.Fits.onSealExpiry (now : Nat) : (hd.onSealExpiry now).Fits := by
  rcases hd.onSealExpiry_cases now with h | h | ⟨gassing, h⟩
  · rwa [h]
  · exact h ▸ fits.endGassing .noSeal now
  · rw [h]
    obtain ⟨outputs, can, command, -, timers⟩ := fits
    exact ⟨outputs, can, command, nofun, timers⟩

theorem Head.Fits.onSealReport : hd.onSealReport.Fits := by
  unfold Head.onSealReport
  split
  · exact fits
  · exact fits

theorem Head.Fits.onCrimp (now nq : Nat) : (hd.onCrimp now nq).Fits := by
  rcases hd.onCrimp_cases now nq with h | ⟨c, rs, settling, held, -, h⟩
  · rwa [h]
  · rw [h]
    simp_all [Head.fits_iff, Head.beginQualification, Head.ventOn, HeadState.clampOn]

end Fits

/-! ## The vent -/

/-- The gas, the collet and the reset vent are off, and nothing that belongs to them runs: what a head that vents has left
behind (R86, R87, R92). -/
structure Head.Shut (hd : Head) : Prop where
  gasValve : hd.gasValve = false
  collet : hd.collet = false
  commandTimer : hd.commandTimer = none
  sealTimer : hd.sealTimer = none
  dwellTimer : hd.dwellTimer = none
  resetVentTimer : hd.resetVentTimer = none
  comparator : hd.comparator = none
  sealWatch : hd.sealWatch = none
  qualification : hd.qualification = none

/-- A shut head that holds such a can is put into VENTING with its vent valve and pulse timer by the vent mode (R88, R89). -/
theorem Head.Shut.vents {hd new : Head} {c : Context} (shut : hd.Shut) (gasOver : c.GasOver) (m : VentMode)
    (timer : Option Nat) (on : m ≠ .off) (timed : timer.isSome = m.timed)
    (put : new = { hd with state := .venting, ctx := some c, ventValve := m.ventOn, ventMode := m, ventTimer := timer }) :
    new.Fits := by
  obtain ⟨gasValve, collet, command, sealing, dwell, reset, comparator, watch, qualification⟩ := shut
  obtain ⟨peak, finish⟩ := gasOver
  subst put
  simp_all [Head.fits_iff, Head.ventOn]

theorem Head.Shut.holdVent {hd : Head} {c : Context} (shut : hd.Shut) (gasOver : c.GasOver) : (hd.holdVent c).Fits :=
  shut.vents gasOver .held none (by decide) rfl rfl

theorem Head.Shut.beginVent {hd : Head} {c : Context} (shut : hd.Shut) (gasOver : c.GasOver) (now : Nat) :
    (hd.beginVent now c).Fits := by
  rcases hd.beginVent_cases now c with h | h
  · exact h ▸ shut.holdVent gasOver
  · exact shut.vents gasOver (.pulsing c.cam.pulses true) _ nofun rfl h

theorem Head.bind_fits {hd : Head} {c : Context} (fits : hd.Fits) (idle : hd.state = .idle) (start : c.start = none)
    (finish : c.finish = none) (peak : c.peak = none) : (hd.bind c).Fits := by
  simp_all [Head.fits_iff, Head.bind, Head.ventOn, HeadState.clampOn]

section Vent
variable {hd : Head} (fits : hd.Fits)
include fits

theorem Head.Fits.shut (apart : hd.state ∉ [HeadState.idle, .gassing, .crimping]) : hd.Shut := by
  constructor <;> simp_all [Head.fits_iff]

theorem Head.Fits.releaseCollet (crimping : hd.state = .crimping) : hd.releaseCollet.Shut := by
  constructor <;> simp_all [Head.fits_iff, Head.releaseCollet, Head.endQualification]

theorem Head.Fits.onDwellExpiry (gauge : Gauge) : (hd.onDwellExpiry gauge).Fits := by
  unfold Head.onDwellExpiry
  split
  · rename_i crimping held _
    obtain ⟨peak, finish⟩ := fits.gasOver held (by simp [crimping])
    dsimp only
    split
    · exact (fits.releaseCollet crimping).holdVent ⟨peak, finish⟩
    · simp_all [Head.fits_iff, Head.releaseCollet, Head.endQualification, Head.ventOn, HeadState.clampOn]
  · exact fits

theorem Head.Fits.onVent (now : Nat) (gauge : Gauge) : (hd.onVent now gauge).Fits := by
  rcases hd.onVent_cases now gauge with h | ⟨c, crimped, held, h⟩ | ⟨c, d, crimping, held, cut, h⟩
  · rwa [h]
  · exact h ▸ (fits.shut (by simp [crimped])).beginVent (fits.gasOver held (by simp [crimped])) now
  · obtain ⟨peak, finish⟩ := fits.gasOver held (by simp [crimping])
    have gasOver : d.GasOver := cut ▸ ⟨peak, finish⟩
    have shut := fits.releaseCollet crimping
    rcases h with h | h
    · exact h ▸ shut.holdVent gasOver
    · exact h ▸ shut.beginVent gasOver now

theorem Head.Fits.onVentExpiry (now : Nat) : (hd.onVentExpiry now).Fits := by
  have vents : ∀ {c new} (m : VentMode) (timer : Option Nat), hd.state = .venting → hd.ctx = some c → m ≠ .off →
      timer.isSome = m.timed → new = { hd with ventValve := m.ventOn, ventMode := m, ventTimer := timer } → new.Fits := by
    intro c new m timer venting held on timed put
    refine (fits.shut (by simp [venting])).vents (fits.gasOver held (by simp [venting])) m timer on timed ?_
    rw [put, ← venting, ← held]
  unfold Head.onVentExpiry
  split
  · rename_i left _ venting held _ _
    exact vents (.pulsing left false) _ venting held nofun rfl rfl
  · rename_i left _ venting held _ _
    split
    · exact vents (.pulsing (left - 1) true) _ venting held nofun rfl rfl
    · exact vents .held none venting held nofun rfl rfl
  · exact fits

theorem Head.Fits.onLift : hd.onLift.Fits := by
  unfold Head.onLift
  split
  · simp_all [Head.fits_iff, Head.ventOn, HeadState.clampOn, VentMode.timed]
  · exact fits

theorem Head.Fits.dropContext (lifted : hd.state = .lifted) : hd.dropContext.Fits := by
  simp_all [Head.fits_iff, Head.dropContext, Head.ventOn, HeadState.clampOn]

theorem Head.Fits.onHalt (now : Nat) : (hd.onHalt now).Fits := by
  rcases hd.onHalt_cases now with h | ⟨c, held, st, h⟩ | ⟨c, held, gassing, h⟩ | ⟨c, held, crimping, h⟩ <;> rw [h]
  · exact fits
  · have apart : hd.state ∉ [HeadState.idle, .gassing, .crimping] := by
      revert st
      cases hd.state <;> decide
    obtain ⟨peak, finish⟩ := fits.gasOver held (by simp_all)
    exact (fits.shut apart).holdVent ⟨peak, finish⟩
  · have stopped := fits.stopGas gassing held .aborted (c.gasElapsed now)
    exact (stopped.shut (by simp [Head.stopGas])).holdVent (stopped.gasOver rfl (by simp [Head.stopGas]))
  · simp_all [Head.fits_iff, Head.ventOn, HeadState.clampOn, Context.abort]

theorem Head.Fits.onResetVentExpiry : hd.onResetVentExpiry.Fits := by
  unfold Head.onResetVentExpiry
  split
  · have idle : hd.state = .idle := by simp_all [Head.fits_iff]
    simp_all [Head.fits_iff, Head.ventOn]
  · exact fits

/-! ## The samples -/

theorem Head.Fits.raisePeak : hd.raisePeak.Fits := by
  rcases hd.raisePeak_cases with h | h
  · rwa [h]
  · rw [h]
    obtain ⟨outputs, ⟨holds, stage⟩, timers⟩ := fits
    refine ⟨outputs, ⟨by simpa using holds, fun d mem => ?_⟩, timers⟩
    obtain ⟨c, held, rfl⟩ := Option.mem_map.1 mem
    simpa using stage c held

theorem Head.Fits.testComparator : hd.testComparator.Fits := by
  rcases hd.testComparator_cases with h | h
  · rwa [h]
  · rw [h]
    obtain ⟨outputs, can, command, sealing, dwell, timed, mode, reset, -, watch, qualification⟩ := fits
    exact ⟨outputs, can, command, sealing, dwell, timed, mode, reset, nofun, watch, qualification⟩

theorem Head.Fits.testSealWatch : hd.testSealWatch.Fits := by
  rcases hd.testSealWatch_cases with h | h
  · rwa [h]
  · rw [h]
    obtain ⟨outputs, can, command, sealing, dwell, timed, mode, reset, comparator, -, qualification⟩ := fits
    exact ⟨outputs, can, command, sealing, dwell, timed, mode, reset, comparator, nofun, qualification⟩

theorem Head.Fits.bellSample (raw : Int) : (hd.bellSample raw).Fits := by
  have read : Head.Fits { hd with reading := bellReading hd.entry raw } := fits
  exact read.raisePeak.testComparator.testSealWatch

theorem Head.Fits.forceSample (newtons : Int) : (hd.forceSample newtons).Fits := by
  obtain ⟨n, q, h⟩ := hd.forceSample_frame newtons
  exact h ▸ fits

end Vent

theorem HeadEvent.keeps_fits {feeds : Prop} {hd new : Head} (event : HeadEvent feeds hd new) (fits : hd.Fits) :
    new.Fits := by
  cases event with
  | aside => exact fits
  | reset entry ends => exact Head.afterReset_fits entry ends
  | bind idle start finish peak => exact Head.bind_fits fits idle start finish peak
  | sealing => exact fits.onSeal
  | skipGas reason sealed held => exact fits.skipGas sealed held reason
  | beginGassing _ sealed now figures flags held => exact fits.beginGassing sealed held now figures flags
  | endGassing cause now => exact fits.endGassing cause now
  | commandExpiry => exact fits.onCommandExpiry
  | sealExpiry now => exact fits.onSealExpiry now
  | sealReport => exact fits.onSealReport
  | crimp now nq => exact fits.onCrimp now nq
  | dwellExpiry gauge => exact fits.onDwellExpiry gauge
  | vent now gauge => exact fits.onVent now gauge
  | ventExpiry now => exact fits.onVentExpiry now
  | lift => exact fits.onLift
  | discharge lifted => exact fits.dropContext lifted
  | halt now => exact fits.onHalt now
  | resetVentExpiry => exact fits.onResetVentExpiry
  | bellSample raw => exact fits.bellSample raw
  | forceSample newtons => exact fits.forceSample newtons

/-! ## The state that each event can lead to -/

section States
variable (hd : Head)

theorem Head.onSeal_state : hd.onSeal.state = hd.state ∨ hd.onSeal.state = .sealed := by
  unfold Head.onSeal
  split
  · exact .inr rfl
  · exact .inl rfl

theorem Head.endGassing_state (cause : GasEndCause) (now : Nat) :
    (hd.endGassing cause now).state = hd.state ∨ (hd.endGassing cause now).state = .settling := by
  rcases hd.endGassing_cases cause now with h | ⟨c, -, -, h⟩ <;> rw [h]
  · exact .inl rfl
  · exact .inr rfl

theorem Head.onCommandExpiry_state : hd.onCommandExpiry.state = hd.state ∨ hd.onCommandExpiry.state = .settling := by
  rcases hd.onCommandExpiry_cases with h | ⟨c, elapsed, -, -, h⟩ <;> rw [h]
  · exact .inl rfl
  · exact .inr rfl

theorem Head.onSealExpiry_state (now : Nat) :
    (hd.onSealExpiry now).state = hd.state ∨ (hd.onSealExpiry now).state = .settling := by
  rcases hd.onSealExpiry_cases now with h | h | ⟨-, h⟩ <;> rw [h]
  · exact .inl rfl
  · exact hd.endGassing_state .noSeal now
  · exact .inl rfl

theorem Head.onSealReport_state : hd.onSealReport.state = hd.state := by
  unfold Head.onSealReport
  split <;> rfl

theorem Head.onCrimp_state (now nq : Nat) :
    (hd.onCrimp now nq).state = hd.state ∨ (hd.onCrimp now nq).state = .crimping := by
  rcases hd.onCrimp_cases now nq with h | ⟨c, rs, -, -, -, h⟩ <;> rw [h]
  · exact .inl rfl
  · exact .inr rfl

theorem Head.onDwellExpiry_state (gauge : Gauge) :
    (hd.onDwellExpiry gauge).state = hd.state ∨ (hd.onDwellExpiry gauge).state = .venting
      ∨ (hd.onDwellExpiry gauge).state = .crimped := by
  unfold Head.onDwellExpiry
  split
  · dsimp only
    split
    · exact .inr (.inl rfl)
    · exact .inr (.inr rfl)
  · exact .inl rfl

theorem Head.beginVent_state (now : Nat) (c : Context) : (hd.beginVent now c).state = .venting := by
  rcases hd.beginVent_cases now c with h | h
  · exact h ▸ rfl
  · exact h ▸ rfl

theorem Head.onVent_state (now : Nat) (gauge : Gauge) :
    (hd.onVent now gauge).state = hd.state ∨ (hd.onVent now gauge).state = .venting := by
  rcases hd.onVent_cases now gauge with h | ⟨c, -, -, h⟩ | ⟨c, d, -, -, -, h | h⟩ <;> rw [h]
  · exact .inl rfl
  · exact .inr (hd.beginVent_state now c)
  · exact .inr rfl
  · exact .inr (hd.releaseCollet.beginVent_state now d)

theorem Head.onVentExpiry_state (now : Nat) : (hd.onVentExpiry now).state = hd.state := by
  unfold Head.onVentExpiry
  split
  · rfl
  · split <;> rfl
  · rfl

theorem Head.onLift_state : hd.onLift.state = hd.state ∨ hd.onLift.state = .lifted := by
  unfold Head.onLift
  split
  · exact .inr rfl
  · exact .inl rfl

theorem Head.onHalt_state (now : Nat) : (hd.onHalt now).state = hd.state ∨ (hd.onHalt now).state = .venting := by
  rcases hd.onHalt_cases now with h | ⟨c, -, -, h⟩ | ⟨c, -, -, h⟩ | ⟨c, -, -, h⟩ <;> rw [h]
  · exact .inl rfl
  · exact .inr rfl
  · exact .inr rfl
  · exact .inl rfl

theorem Head.onResetVentExpiry_state : hd.onResetVentExpiry.state = hd.state := by
  unfold Head.onResetVentExpiry
  split <;> rfl

theorem Head.bellSample_state (raw : Int) : (hd.bellSample raw).state = hd.state := by
  have peak : ∀ x : Head, x.raisePeak.state = x.state := fun x => by
    rcases x.raisePeak_cases with h | h <;> rw [h]
  have comparator : ∀ x : Head, x.testComparator.state = x.state := fun x => by
    rcases x.testComparator_cases with h | h <;> rw [h]
  have watch : ∀ x : Head, x.testSealWatch.state = x.state := fun x => by
    rcases x.testSealWatch_cases with h | h <;> rw [h]
  rw [Head.bellSample, watch, comparator, peak]

theorem Head.forceSample_state (newtons : Int) : (hd.forceSample newtons).state = hd.state := by
  obtain ⟨n, q, h⟩ := hd.forceSample_frame newtons
  rw [h]

end States

/-- A head enters GASSING by a gas start that is fed, and by no other event (R76). -/
theorem HeadEvent.enters_gassing {feeds : Prop} {hd new : Head} (event : HeadEvent feeds hd new)
    (gassing : new.state = .gassing) : hd.state = .gassing ∨ feeds := by
  cases event with
  | aside => exact .inl gassing
  | reset | bind | skipGas | discharge => cases gassing
  | beginGassing fed => exact .inr fed
  | sealing => exact .inl (by simpa [gassing, eq_comm] using hd.onSeal_state)
  | endGassing cause now => exact .inl (by simpa [gassing, eq_comm] using hd.endGassing_state cause now)
  | commandExpiry => exact .inl (by simpa [gassing, eq_comm] using hd.onCommandExpiry_state)
  | sealExpiry now => exact .inl (by simpa [gassing, eq_comm] using hd.onSealExpiry_state now)
  | sealReport => exact .inl (hd.onSealReport_state ▸ gassing)
  | crimp now nq => exact .inl (by simpa [gassing, eq_comm] using hd.onCrimp_state now nq)
  | dwellExpiry gauge => exact .inl (by simpa [gassing, eq_comm] using hd.onDwellExpiry_state gauge)
  | vent now gauge => exact .inl (by simpa [gassing, eq_comm] using hd.onVent_state now gauge)
  | ventExpiry now => exact .inl (hd.onVentExpiry_state now ▸ gassing)
  | lift => exact .inl (by simpa [gassing, eq_comm] using hd.onLift_state)
  | halt now => exact .inl (by simpa [gassing, eq_comm] using hd.onHalt_state now)
  | resetVentExpiry => exact .inl (hd.onResetVentExpiry_state ▸ gassing)
  | bellSample raw => exact .inl (hd.bellSample_state raw ▸ gassing)
  | forceSample newtons => exact .inl (hd.forceSample_state newtons ▸ gassing)

end Sys2Proof.Machine
end

section
/-! SUPPORT. What every command does to every head: a chain of the events of `HeadEvent`, in which a gassing begins only where
the part feeds gas and only at a crossing (R76). -/

namespace Sys2Proof.Machine

/-- The part feeds gas: it runs or drains, and the supply is not LOW (R76). -/
abbrev State.FeedsGas (s : State) : Prop := (s.mode = .run ∨ s.mode = .drain) ∧ s.supply.state ≠ .low

/-- Every head of `t` comes of the same head of `s` by events taken at it. -/
def State.HeadsTake (feeds : Prop) (s t : State) : Prop :=
  ∀ h : HeadNo, Relation.ReflTransGen (HeadEvent feeds) (s.head h) (t.head h)

/-- A chain of events keeps a head to its state (R73). -/
theorem HeadEvent.chain_fits {feeds : Prop} {hd new : Head} (chain : Relation.ReflTransGen (HeadEvent feeds) hd new)
    (fits : hd.Fits) : new.Fits := by
  induction chain with
  | refl => exact fits
  | tail _ event ih => exact event.keeps_fits ih

/-- A chain of events takes a head into GASSING only where a gas start is fed (R76). -/
theorem HeadEvent.chain_enters_gassing {feeds : Prop} {hd new : Head}
    (chain : Relation.ReflTransGen (HeadEvent feeds) hd new) (gassing : new.state = .gassing) :
    hd.state = .gassing ∨ feeds := by
  induction chain with
  | refl => exact .inl gassing
  | tail _ event ih => exact (event.enters_gassing gassing).elim ih .inr

section Taking
variable {feeds : Prop}

theorem State.HeadsTake.trans {s t u : State} (a : s.HeadsTake feeds t) (b : t.HeadsTake feeds u) : s.HeadsTake feeds u :=
  fun h => (a h).trans (b h)

/-- What leaves every head. -/
theorem State.HeadsTake.same {s t : State} (heads : ∀ h : HeadNo, t.head h = s.head h) : s.HeadsTake feeds t :=
  fun h => heads h ▸ .refl

theorem State.HeadsTake.ofHeads {s t : State} (heads : t.heads = s.heads) : s.HeadsTake feeds t :=
  .same fun h => congrArg (·[h]) heads

theorem State.HeadsTake.refl (s : State) : s.HeadsTake feeds s := .same fun _ => rfl

/-- One event at every head. -/
theorem State.HeadsTake.each {s t : State} (event : ∀ h : HeadNo, HeadEvent feeds (s.head h) (t.head h)) :
    s.HeadsTake feeds t :=
  fun h => .single (event h)

/-- What changes head h alone, by events taken at it. -/
theorem State.HeadsTake.alone {s t : State} {h : HeadNo}
    (event : Relation.ReflTransGen (HeadEvent feeds) (s.head h) (t.head h))
    (others : ∀ k : HeadNo, k ≠ h → t.head k = s.head k) : s.HeadsTake feeds t := by
  intro k
  by_cases own : k = h
  · exact own ▸ event
  · exact others k own ▸ .refl

theorem State.onHead_takes {h : HeadNo} {f : Head → Head} {s : State} (event : HeadEvent feeds (s.head h) (f (s.head h))) :
    s.HeadsTake feeds (s.onHead h f) := by
  refine .alone (h := h) ?_ fun k other => s.onHead_head_ne f other
  rw [State.onHead_head]
  exact .single event

/-! ## Mode control, the supply, the store and the reset -/

theorem State.enterHalt_takes (cause : HaltCause) (s : State) : s.HeadsTake feeds (s.enterHalt cause) :=
  .each fun h => by
    rw [State.enterHalt_head]
    exact .aside _ _ _ _ _

theorem State.takeHalt_takes (cause : HaltCause) (s : State) : s.HeadsTake feeds (s.takeHalt cause) := by
  rcases s.takeHalt_cases cause with ⟨h, -⟩ | ⟨h, -⟩ <;> rw [h]
  · exact .refl s
  · exact s.enterHalt_takes cause

theorem State.reverseEdge_takes (s : State) : s.HeadsTake feeds s.reverseEdge :=
  have moved : ∀ t, s.HeadsTake feeds (s.setTracker t) := fun _ => .same fun _ => rfl
  (moved _).trans (State.takeHalt_takes .reverse _)

theorem State.takeMode_takes (target : ModeTarget) (s : State) : s.HeadsTake feeds (s.takeMode target).1 := by
  rcases s.takeMode_cases target with h | ⟨h, -⟩ | ⟨h, -⟩ | ⟨h, -⟩ | ⟨h, -⟩ <;> rw [h]
  · exact .refl s
  · exact .same fun _ => rfl
  · exact .same (State.drainCheck_head _)
  · exact s.enterHalt_takes _
  · exact .same s.enterStandby_head

theorem State.enterLow_takes (s : State) : s.HeadsTake feeds s.enterLow :=
  .each fun h => by
    rw [State.enterLow_head]
    exact .aside _ _ _ _ _

theorem State.resetPart_takes (pins : BitVec 5) (s : State) : s.HeadsTake feeds (s.resetPart pins) :=
  .each fun h => by
    rw [State.resetPart_head]
    exact .reset _ _ _

/-! ## The ring port and the infeed queue -/

theorem State.offerRelay_takes (f : List Byte) (s : State) : s.HeadsTake feeds (s.offerRelay f) := by
  obtain ⟨r, p, frame⟩ := s.offerRelay_frame f
  rw [frame]
  exact .same fun _ => rfl

theorem State.offerReply_takes (r : Reply) (s : State) : s.HeadsTake feeds (s.offerReply r) := by
  obtain ⟨g, p, frame⟩ := s.offerReply_frame r
  rw [frame]
  exact .same fun _ => rfl

theorem State.endSending_takes (s : State) : s.HeadsTake feeds s.endSending := by
  obtain ⟨r, frame⟩ := State.arbitrate_frame { s with ring := { s.ring with transmitter := none } }
  rw [State.endSending, frame]
  exact .same fun _ => rfl

theorem State.takeBroadcast_takes (p : List Byte) (s : State) : s.HeadsTake feeds (s.takeBroadcast p) := by
  unfold State.takeBroadcast
  split
  · exact s.takeMode_takes _
  · exact .refl s

theorem State.frameIn_takes (bs : List Byte) (s : State) : s.HeadsTake feeds (s.frameIn bs) := by
  unfold State.frameIn
  split
  · unfold State.route
    dsimp only
    split
    · exact .same fun _ => rfl
    · split
      · exact .same fun _ => rfl
      · split
        · exact (s.takeBroadcast_takes _).trans (State.offerRelay_takes _ _)
        · split
          · exact .refl s
          · exact s.offerRelay_takes bs
  · exact .same fun _ => rfl

theorem State.takeTicket_head (flags : Byte) (payload : List Byte) (s : State) (k : HeadNo) :
    (s.takeTicket flags payload).head k = s.head k := by
  unfold State.takeTicket
  split
  · rfl
  · unfold State.acceptTicket
    split
    · rfl
    · split <;> rfl

/-! ## The requests -/

/-- A MODE request, a HEAD-WRITE, a LATCH, a SNAPSHOT and a RESTART reach the heads; every other request leaves them (R162). -/
theorem dealRequest_takes (pins : BitVec 5) (r : Request) (s : State) :
    s.HeadsTake feeds (dealRequest pins r s).state := by
  cases r with
  | unknown | malformed | status | attention => exact .refl s
  | mode target => exact s.takeMode_takes target
  | headWrite h rc f =>
    simp only [dealRequest, dealHeadWrite]
    split
    · split
      · exact .refl s
      · exact State.onHead_takes (.aside _ _ _ _ _)
    · exact .refl s
  | latch m =>
    refine .each fun h => ?_
    simp only [dealRequest, dealLatch, State.latchHeads, State.onHeads_head]
    split <;> exact .aside _ _ _ _ _
  | snapshot h =>
    simp only [dealRequest, dealSnapshot]
    split
    · split
      · exact State.onHead_takes (.aside _ _ _ _ _)
      · exact .refl s
    · exact .refl s
  | restart =>
    simp only [dealRequest, dealRestart]
    split
    · exact s.resetPart_takes pins
    · exact .refl s
  | recipeGas | recipeCam | recipeDrop | recipeClear =>
    refine .ofHeads ?_
    simp only [dealRequest, dealRecipeGas, dealRecipeCam, dealRecipeDrop, dealRecipeClear]
    (repeat' split) <;> rfl
  | headStore | protect =>
    refine .ofHeads ?_
    simp only [dealRequest, dealHeadStore, dealProtect]
    (repeat' split) <;> rfl
  | counters =>
    refine .ofHeads ?_
    simp only [dealRequest, dealCounters, State.clearScope]
    (repeat' split) <;> rfl
  | configWrite v =>
    refine .ofHeads ?_
    cases v <;> simp only [dealRequest, dealConfigWrite, dealADis, dealFaultLimit, dealNq, dealLevelPair,
      dealDipTolerance, dealValves, dealFlow] <;> (repeat' split) <;> rfl
  | recipeRead p source half => exact .ofHeads (by rw [dealRequest, dealRecipeRead_state])
  | headRead h => exact .ofHeads (by rw [dealRequest, dealHeadRead_state])
  | configRead group => exact .ofHeads (by rw [dealRequest, dealConfigRead_state])

theorem takeRequest_takes (dt : Nat) (tag : Byte) (pins : BitVec 5) (r : Request) (s : State) :
    s.HeadsTake feeds (takeRequest dt tag r (dealRequest pins r) s) := by
  unfold takeRequest
  dsimp only
  split
  · have dropped : s.HeadsTake feeds (s.elapse dt).dropRequestInHand := .same fun _ => rfl
    exact dropped.trans ((dealRequest_takes pins r _).trans (State.offerReply_takes _ _))
  · exact .same fun _ => rfl

/-! ## The pitch mark -/

/-- A can is bound at an IDLE head, a ticket's or an untracked one, before any gassing (R28, R31). -/
theorem State.bound_takes {h : HeadNo} {s : State} (idle : (s.head h).state = .idle) {c : Context} (start : c.start = none)
    (finish : c.finish = none) (peak : c.peak = none) : s.HeadsTake feeds (s.onHead h (Head.bind c)) :=
  State.onHead_takes (.bind idle start finish peak)

theorem State.emitAtOnce_takes (t : Ticket) (h : HeadNo) (reason : Option Reason) (s : State) :
    s.HeadsTake feeds (s.emitAtOnce t h reason) :=
  .same (s.emitAtOnce_head t h reason)

theorem State.dealTicket_takes {h : HeadNo} {s : State} (idle : (s.head h).state = .idle) (t : Ticket) :
    s.HeadsTake feeds (s.dealTicket h t) := by
  unfold State.dealTicket
  split
  · split
    · exact s.emitAtOnce_takes t h _
    · exact (State.bound_takes idle rfl rfl rfl).trans (.same fun _ => rfl)
  · exact s.emitAtOnce_takes t h _

theorem State.untrackedCan_takes {h : HeadNo} {s : State} (idle : (s.head h).state = .idle) :
    s.HeadsTake feeds (s.untrackedCan h) := by
  have counted : s.HeadsTake feeds s.countUntracked := .same s.countUntracked_head
  refine counted.trans ?_
  unfold State.untrackedCan
  dsimp only
  split
  · split
    · exact .refl _
    · split
      · exact .refl _
      · exact State.bound_takes idle rfl rfl rfl
  · exact .refl _

theorem State.infeedPitch_takes (h : HeadNo) (high : Bool) (s : State) : s.HeadsTake feeds (s.infeedPitch h high) := by
  by_cases idle : (s.head h).state = .idle
  · cases queue : s.infeed.queue with
    | nil =>
      rw [State.infeedPitch_empty idle queue]
      split
      · split
        · exact State.untrackedCan_takes (s := s.unlatched) idle
        · exact .same s.unlatched.countUntracked_head
      · exact .same fun _ => rfl
    | cons t rest =>
      rw [State.infeedPitch_ticket idle queue]
      split
      · split
        · exact State.dealTicket_takes (s := s.leaving rest) idle t
        · exact State.emitAtOnce_takes t h _ (s.leaving rest)
      · exact State.emitAtOnce_takes t h _ (s.leaving rest)
  · rw [State.infeedPitch_busy idle]
    exact .same fun _ => rfl

theorem State.pitchMark_takes (h : HeadNo) (high : Bool) (s : State) : s.HeadsTake feeds (s.pitchMark h high) :=
  have promoted : s.HeadsTake feeds (s.setTracker (s.tracker.pitchMark s.now)).promoteAtPitch :=
    .same (State.promoteAtPitch_head _)
  promoted.trans (State.infeedPitch_takes h high _)

/-! ## The phase events -/

/-- A gassing begins only where the part feeds gas (R76). -/
theorem gasStartEvent_takes {h : HeadNo} {s : State} (fed : s.FeedsGas → feeds) :
    s.HeadsTake feeds (gasStartEvent h s) := by
  unfold gasStartEvent
  split
  · rename_i c sealed held
    split
    · exact State.onHead_takes (.skipGas _ sealed held)
    · rename_i runs
      split
      · exact State.onHead_takes (.skipGas _ sealed held)
      · rename_i supplied
        exact State.onHead_takes (.beginGassing (fed ⟨by tauto, supplied⟩) sealed _ _ _ held)
  · exact .refl s

/-- A discharge accounts the fault run of its head, which then drops its can (R91, R137). -/
theorem dischargeEvent_takes (h : HeadNo) (s : State) : s.HeadsTake feeds (dischargeEvent h s) := by
  unfold dischargeEvent
  split
  · rename_i c lifted _
    have freed : s.HeadsTake feeds (s.discharged h c) := by
      refine .alone (h := h) ?_ fun k other => s.discharged_head_ne other c
      rw [State.discharged_head]
      exact .tail (.single (.aside _ _ _ _ _)) (.discharge lifted)
    exact freed.trans (.same (State.drainCheck_head _))
  · exact .refl s

theorem takePhase_takes {s : State} (fed : s.FeedsGas → feeds) (h : HeadNo) (gauge : Gauge) (e : PhaseEvent) :
    s.HeadsTake feeds (takePhase h gauge e s) := by
  cases e with
  | sealing => exact State.onHead_takes (.sealing _)
  | gasStart => exact gasStartEvent_takes fed
  | gasEnd => exact State.onHead_takes (.endGassing _ _ _)
  | crimp => exact State.onHead_takes (.crimp _ _ _)
  | vent => exact State.onHead_takes (.vent _ _ _)
  | lift => exact State.onHead_takes (.lift _)
  | discharge => exact dischargeEvent_takes h s

/-! ## The crossing -/

theorem deliver_takes {s : State} (fed : s.FeedsGas → feeds) (lines : Lines) (a : Arrival) :
    s.HeadsTake feeds (deliver lines s a) := by
  rcases deliver_cases lines s a with h | ⟨-, h⟩ | ⟨k, e, -, -, h⟩ <;> rw [h]
  · exact .refl s
  · exact s.pitchMark_takes _ _
  · exact takePhase_takes fed k _ e

/-- A crossing never makes a part feed gas that did not: it can pass to STANDBY, and it leaves the supply (R149). -/
theorem CrossingChange.feedsGas {s t : State} (change : CrossingChange s t) (fed : t.FeedsGas) : s.FeedsGas := by
  cases change with
  | standby => simp [State.FeedsGas] at fed
  | _ => exact fed

/-- The part between two events of a crossing that began in `s`: what its heads took, and that it feeds gas only as the
crossing's begin allows. -/
abbrev State.TakesWithin (feeds : Prop) (s t : State) : Prop := s.HeadsTake feeds t ∧ (t.FeedsGas → feeds)

theorem deliver_takesWithin {s t : State} (before : s.TakesWithin feeds t) (lines : Lines) (a : Arrival) :
    s.TakesWithin feeds (deliver lines t a) := by
  obtain ⟨taken, fed⟩ := before
  refine ⟨taken.trans (deliver_takes fed lines a), ?_⟩
  exact (deliver_crosses lines t a).keeps (P := fun u => u.FeedsGas → feeds)
    (fun _ _ change before after => before (change.feedsGas after)) fed

theorem crossOnto_takesWithin {s t : State} (before : s.TakesWithin feeds t) (c : Nat) (lines : Lines)
    (order : List Arrival) : s.TakesWithin feeds (crossOnto c lines order t) :=
  have ⟨taken, fed⟩ := before
  deliverAll_keeps order (fun a _ within => deliver_takesWithin within lines a) ⟨taken.trans (.same fun _ => rfl), fed⟩

theorem State.forwardEdge_takes {s : State} (fed : s.FeedsGas → feeds) (lines : Lines) (order : List Arrival) :
    s.HeadsTake feeds (s.forwardEdge lines order) := by
  unfold State.forwardEdge
  dsimp only
  split
  · exact .same fun _ => rfl
  · have turned : s.TakesWithin feeds (s.setTracker { s.tracker with direction := .forward }) := ⟨.same fun _ => rfl, fed⟩
    exact (crossOnto_takesWithin turned _ lines order).1

theorem State.indexMark_takes {s : State} (fed : s.FeedsGas → feeds) (lines : Lines) (order6143 order0 : List Arrival) :
    s.HeadsTake feeds (s.indexMark lines order6143 order0) := by
  have start : s.TakesWithin feeds s := ⟨.refl s, fed⟩
  have moved : ∀ t, s.HeadsTake feeds (s.setTracker t) := fun _ => .same fun _ => rfl
  unfold State.indexMark
  dsimp only
  split
  · exact .refl s
  · split
    · split
      · split
        · exact (crossOnto_takesWithin (crossOnto_takesWithin start _ lines order6143) _ lines order0).1
        · exact (crossOnto_takesWithin start _ lines order0).1
      · exact moved _
    · split
      · exact moved _
      · exact (moved _).trans (State.takeHalt_takes _ _)

/-! ## Every command -/

/-- A command taken at a head. -/
theorem State.atHead_takes {h : HeadNo} {f : Head → Head} {s : State} (dt : Nat)
    (events : Relation.ReflTransGen (HeadEvent feeds) (s.head h) (f (s.head h))) :
    s.HeadsTake feeds ((s.elapse dt).onHead h f) := by
  refine .alone (h := h) ?_ fun k other => (s.elapse dt).onHead_head_ne f other
  rw [State.onHead_head]
  exact events

/-- The head takes a message, one less in flight, and then acts on it (log entry 5). -/
theorem HeadEvent.message {hd new : Head} {inbox : Inbox} (event : HeadEvent feeds { hd with inbox := inbox } new) :
    Relation.ReflTransGen (HeadEvent feeds) hd new :=
  .tail (.single (.aside hd hd.entry hd.faults hd.snapshot inbox)) event

end Taking

end Sys2Proof.Machine

namespace Sys2Proof

/-- The commands that make the turret cross: a forward edge, and an index mark by its correction (R2, R5). -/
abbrev Instr.Crosses (i : Instr) : Prop :=
  (∃ dt lines order, i = .forwardEdge dt lines order) ∨ ∃ dt lines o1 o0, i = .indexMark dt lines o1 o0

end Sys2Proof

namespace Sys2Proof.Machine

/-- Every command completes by events taken at the heads, and lets a gassing begin only at a crossing, where the part feeds
gas (R76). -/
theorem exec_takes (i : Instr) (s : State) :
    ∃ t, exec i s = .next t ∧ s.HeadsTake (s.FeedsGas ∧ i.Crosses) t := by
  rcases brings : i.request with _ | ⟨tag, r⟩
  · have waits : ∀ {p} dt, s.HeadsTake p (s.elapse dt) := fun _ => .same fun _ => rfl
    cases i with
    | reset dt pins => exact ⟨_, rfl, (waits dt).trans (State.resetPart_takes pins _)⟩
    | forwardEdge dt lines order =>
      exact ⟨_, rfl, (waits dt).trans (State.forwardEdge_takes (fun fed => ⟨fed, .inl ⟨_, _, _, rfl⟩⟩) lines order)⟩
    | reverseEdge dt => exact ⟨_, rfl, (waits dt).trans (State.reverseEdge_takes _)⟩
    | indexMark dt lines o1 o0 =>
      exact ⟨_, rfl, (waits dt).trans (State.indexMark_takes (fun fed => ⟨fed, .inr ⟨_, _, _, _, rfl⟩⟩) lines o1 o0)⟩
    | pitchTimerSaturation dt => exact ⟨_, rfl, waits dt⟩
    | canPresentEdge dt => exact ⟨_, rfl, waits dt⟩
    | bellPressureSample dt h raw => exact ⟨_, rfl, State.atHead_takes dt (.single (.bellSample _ raw))⟩
    | crimpForceSample dt h newtons => exact ⟨_, rfl, State.atHead_takes dt (.single (.forceSample _ newtons))⟩
    | manifoldSample dt raw => exact ⟨_, rfl, waits dt⟩
    | overpressureTrip dt h => exact ⟨_, rfl, State.atHead_takes dt (HeadEvent.message (.endGassing _ _ _))⟩
    | sealLevelReport dt h => exact ⟨_, rfl, State.atHead_takes dt (HeadEvent.message (.sealReport _))⟩
    | commandTimerExpiry dt h => exact ⟨_, rfl, State.atHead_takes dt (.single (.commandExpiry _))⟩
    | sealCheckTimerExpiry dt h => exact ⟨_, rfl, State.atHead_takes dt (.single (.sealExpiry _ _))⟩
    | dwellTimerExpiry dt h gauge => exact ⟨_, rfl, State.atHead_takes dt (.single (.dwellExpiry _ gauge))⟩
    | ventPulseTimerExpiry dt h => exact ⟨_, rfl, State.atHead_takes dt (.single (.ventExpiry _ _))⟩
    | resetVentTimerExpiry dt h => exact ⟨_, rfl, State.atHead_takes dt (.single (.resetVentExpiry _))⟩
    | dipTimerExpiry dt =>
      simp only [exec, execDipTimerExpiry]
      split
      · exact ⟨_, rfl, (waits dt).trans (State.enterLow_takes _)⟩
      · exact ⟨_, rfl, waits dt⟩
    | lowEvent dt h => exact ⟨_, rfl, State.atHead_takes dt (HeadEvent.message (.endGassing _ _ _))⟩
    | headHalt dt h => exact ⟨_, rfl, State.atHead_takes dt (HeadEvent.message (.halt _ _))⟩
    | trackerHaltRequest dt cause => exact ⟨_, rfl, (waits dt).trans (State.takeHalt_takes _ _)⟩
    | storeOperationTimerExpiry dt =>
      simp only [exec, execStoreOperationTimerExpiry]
      split <;> exact ⟨_, rfl, waits dt⟩
    | ringInFrame dt bytes => exact ⟨_, rfl, (waits dt).trans (State.frameIn_takes bytes _)⟩
    | infeedTicket dt flags payload =>
      simp only [exec, execInfeedTicket]
      split
      · exact ⟨_, rfl, (waits dt).trans (.same (State.takeTicket_head flags payload _))⟩
      · exact ⟨_, rfl, waits dt⟩
    | transmitComplete dt =>
      simp only [exec, execTransmitComplete]
      split
      · exact ⟨_, rfl, (waits dt).trans (State.endSending_takes _)⟩
      · exact ⟨_, rfl, waits dt⟩
    | _ => cases brings
  · exact ⟨_, exec_request brings s, takeRequest_takes _ tag _ r s⟩

/-- A step keeps every head to its state. -/
theorem step_headsFit {s t : State} (taken : step s = .next t) (fits : s.HeadsFit) : t.HeadsFit := by
  unfold step at taken
  split at taken
  · cases taken
    exact fits
  · rename_i c rest _
    obtain ⟨u, run, takes⟩ := exec_takes c { s with pending := rest }
    obtain rfl : u = t := Host.Outcome.next.inj (run.symm.trans taken)
    exact fun h => HeadEvent.chain_fits (takes h) (fits h)

/-- A head that fits its state never has its gas valve and its vent valve on together (R73). -/
theorem Head.Fits.gasOrVent {hd : Head} (fits : hd.Fits) : ¬ (hd.gasValve = true ∧ hd.ventValve = true) := by
  rintro ⟨gas, vent⟩
  obtain ⟨⟨gasOn, ventOn, -⟩, -⟩ := fits
  have gassing : hd.state = .gassing := by simpa [gas] using gasOn
  simp [ventOn, Head.ventOn, gassing] at vent

end Sys2Proof.Machine

namespace Sys2Proof.Proofs
open Sys2Proof.Machine

/-- Settles O52: every event that a step takes at a head keeps the head to its state. -/
theorem everyStepKeepsTheHeadsToTheirStates : Obligations.EveryStepKeepsTheHeadsToTheirStates := by
  unfold Obligations.EveryStepKeepsTheHeadsToTheirStates
  intro s t fits taken
  have kept := step_headsFit taken fits
  exact ⟨kept, fun h => (kept h).gasOrVent⟩

/-- Settles O60: a head outside GASSING stays outside it by every event but a gas start that is fed. -/
theorem gassingBeginsOnlyInRunOrDrainAndNotInLow : Obligations.GassingBeginsOnlyInRunOrDrainAndNotInLow := by
  unfold Obligations.GassingBeginsOnlyInRunOrDrainAndNotInLow
  intro i s t h run outside gassing
  obtain ⟨u, completes, takes⟩ := exec_takes i s
  obtain rfl : u = t := Host.Outcome.next.inj (completes.symm.trans run)
  have entered : (s.head h).state = .gassing ∨ s.FeedsGas ∧ i.Crosses :=
    HeadEvent.chain_enters_gassing (takes h) gassing
  obtain ⟨⟨mode, supply⟩, crosses⟩ := entered.resolve_left outside
  exact ⟨mode, supply, crosses⟩

end Sys2Proof.Proofs
end

section
/-! SUPPORT. Each event at one head, by the state that it acts in (section 5.1, R74). -/

namespace Sys2Proof.Machine

/-- A head that an event leaves as it was leaves the part. -/
theorem State.onHead_same {h : HeadNo} {f : Head → Head} {s : State} (same : f (s.head h) = s.head h) : s.onHead h f = s := by
  rw [State.onHead_eq, same, State.setHead_self]

/-! ## Out of its state an event changes nothing -/

section Out
variable {hd : Head}

theorem Head.onSeal_out (out : hd.state ≠ .bound) : hd.onSeal = hd := by
  unfold Head.onSeal
  split
  · exact absurd ‹_› out
  · rfl

theorem Head.endGassing_out (out : hd.state ≠ .gassing) (cause : GasEndCause) (now : Nat) : hd.endGassing cause now = hd := by
  rcases hd.endGassing_cases cause now with h | ⟨c, gassing, -⟩
  · exact h
  · exact absurd gassing out

theorem Head.onCommandExpiry_out (out : hd.state ≠ .gassing) : hd.onCommandExpiry = hd := by
  rcases hd.onCommandExpiry_cases with h | ⟨c, elapsed, gassing, -⟩
  · exact h
  · exact absurd gassing out

theorem Head.onSealExpiry_out (out : hd.state ≠ .gassing) (now : Nat) : hd.onSealExpiry now = hd := by
  rcases hd.onSealExpiry_cases now with h | h | ⟨gassing, -⟩
  · exact h
  · exact h.trans (Head.endGassing_out out .noSeal now)
  · exact absurd gassing out

theorem Head.onSealReport_out (out : hd.state ≠ .gassing) : hd.onSealReport = hd := by
  unfold Head.onSealReport
  split
  · exact absurd ‹_› out
  · rfl

theorem Head.onCrimp_out (out : hd.state ≠ .settling) (now nq : Nat) : hd.onCrimp now nq = hd := by
  rcases hd.onCrimp_cases now nq with h | ⟨c, rs, settling, -⟩
  · exact h
  · exact absurd settling out

theorem Head.onVent_out (crimped : hd.state ≠ .crimped) (crimping : hd.state ≠ .crimping) (now : Nat) (gauge : Gauge) :
    hd.onVent now gauge = hd := by
  rcases hd.onVent_cases now gauge with h | ⟨c, st, -⟩ | ⟨c, d, st, -⟩
  · exact h
  · exact absurd st crimped
  · exact absurd st crimping

theorem Head.onLift_out (out : hd.state ≠ .venting) : hd.onLift = hd := by
  unfold Head.onLift
  split
  · exact absurd ‹_› out
  · rfl

end Out

theorem gasStartEvent_out {h : HeadNo} {s : State} (out : (s.head h).state ≠ .sealed) : gasStartEvent h s = s := by
  unfold gasStartEvent
  split
  · exact absurd ‹_› out
  · rfl

theorem dischargeEvent_out {h : HeadNo} {s : State} (out : (s.head h).state ≠ .lifted) : dischargeEvent h s = s := by
  unfold dischargeEvent
  split
  · exact absurd ‹_› out
  · rfl

/-! ## In its state -/

section In
variable {hd : Head}

theorem Head.onSeal_bound (bound : hd.state = .bound) : hd.onSeal = { hd with clamp := true, state := .sealed } := by
  simp only [Head.onSeal, bound]

theorem Head.onSealReport_gassing (gassing : hd.state = .gassing) : hd.onSealReport = { hd with sealReached := true } := by
  simp only [Head.onSealReport, gassing]

/-- The seal-check timer's expiry with the mark set stops the timer, if it ran, and changes nothing else (R80). -/
theorem Head.onSealExpiry_reached (gassing : hd.state = .gassing) (reached : hd.sealReached = true) (now : Nat) :
    hd.onSealExpiry now = { hd with sealTimer := none } := by
  cases timer : hd.sealTimer with
  | none =>
    have idle : { hd with sealTimer := none } = hd := by rw [← timer]
    rw [idle]
    simp only [Head.onSealExpiry, gassing, timer]
  | some ends => simp only [Head.onSealExpiry, gassing, timer, reached, if_true]

variable {c : Context} (held : hd.ctx = some c)
include held

theorem Head.onCrimp_settling (settling : hd.state = .settling) (now nq : Nat) :
    hd.onCrimp now nq = { hd with
      ctx := some { c with
        settle := some hd.reading
        reasons :=
          if c.start.isSome = true ∧ (hd.reading < c.gas.settleMin ∨ c.gas.settleMax < hd.reading) then
            addReason .settleRange c.reasons
          else c.reasons }
      collet := true
      dwellTimer := some (now + c.cam.dwell * 1000)
      qualification := some ⟨c.cam.force, nq⟩, runCount := 0, qualified := false
      state := .crimping } := by
  simp only [Head.onCrimp, settling, held, Head.beginQualification, addReasonIf, Bool.and_eq_true,
    Bool.or_eq_true, decide_eq_true_eq]

theorem Head.onLift_venting (venting : hd.state = .venting) :
    hd.onLift = { hd with
      ctx := some { c with
        reasons := if c.cam.ventClear < hd.reading then addReason .ventIncomplete c.reasons else c.reasons }
      ventValve := false, ventMode := .off, ventTimer := none, clamp := false
      state := .lifted } := by
  simp only [Head.onLift, venting, held, addReasonIf, decide_eq_true_eq]

end In

end Sys2Proof.Machine

namespace Sys2Proof.Proofs
open Sys2Proof.Machine

/-- Settles O8: each of the seven events looks for its own states first. -/
theorem phaseEventOutOfItsStateChangesNothing : Obligations.PhaseEventOutOfItsStateChangesNothing := by
  unfold Obligations.PhaseEventOutOfItsStateChangesNothing
  intro h gauge e s out
  have apart : ∀ st, e.actsIn st = true → (s.head h).state ≠ st := by
    rintro st acts rfl
    simp [acts] at out
  cases e with
  | sealing => exact State.onHead_same (Head.onSeal_out (apart _ rfl))
  | gasStart => exact gasStartEvent_out (apart _ rfl)
  | gasEnd => exact State.onHead_same (Head.endGassing_out (apart _ rfl) _ _)
  | crimp => exact State.onHead_same (Head.onCrimp_out (apart _ rfl) _ _)
  | vent => exact State.onHead_same (Head.onVent_out (apart _ rfl) (apart _ rfl) _ _)
  | lift => exact State.onHead_same (Head.onLift_out (apart _ rfl))
  | discharge => exact dischargeEvent_out (apart _ rfl)

/-- Settles O31: each of the three events in its own state. -/
theorem sealCrimpAndLiftAngles : Obligations.SealCrimpAndLiftAngles := by
  unfold Obligations.SealCrimpAndLiftAngles
  intro h gauge s c held hd
  refine ⟨fun bound => ?_, fun settling => ?_, fun venting => ?_⟩
  · exact congrArg (State.setHead h · s) (Head.onSeal_bound bound)
  · exact congrArg (State.setHead h · s) (Head.onCrimp_settling held settling s.now s.nq)
  · exact congrArg (State.setHead h · s) (Head.onLift_venting held venting)

/-- Settles O30: a message is taken off the inbox and then acts in GASSING alone; an expiry acts in GASSING alone. -/
theorem sealReachedAndEventsOutsideGassing : Obligations.SealReachedAndEventsOutsideGassing := by
  unfold Obligations.SealReachedAndEventsOutsideGassing
  intro dt h s hd became
  have puts : ∀ {f : Head → Head} {new : Head}, f hd = new → ((s.elapse dt).onHead h f) = became new :=
    fun event => congrArg (State.setHead h · (s.elapse dt)) event
  refine ⟨fun gassing => ⟨?_, fun reached => ?_⟩, fun out => ⟨?_, ?_, ?_, ?_, ?_⟩⟩ <;> refine congrArg Host.Outcome.next ?_
  · exact puts (Head.onSealReport_gassing gassing)
  · exact puts (Head.onSealExpiry_reached gassing reached _)
  · exact puts (Head.onSealReport_out out)
  · exact puts (Head.endGassing_out (hd := hd.takeTrip) out _ _)
  · exact puts (Head.endGassing_out (hd := hd.takeLow) out _ _)
  · exact State.onHead_same (Head.onCommandExpiry_out out)
  · exact State.onHead_same (Head.onSealExpiry_out out _)

end Sys2Proof.Proofs
end

section
/-! SUPPORT. The end of a crimp, the vent and HALT at one head, by its state (R86 to R89, R92, R93, R99). -/

namespace Sys2Proof.Machine

/-- A sum brought into 0..top, end by end. -/
theorem clampTo_eq (top : Nat) (i : Int) : clampTo top i = if i < 0 then 0 else if (top : Int) < i then top else i.toNat := by
  unfold clampTo
  split
  · omega
  · split <;> omega

/-- The reasons of a crimp that ran its dwell, test by test (R113). -/
theorem crimpReasons_eq (cam : CamHalf) (r : CrimpResult) (rs : List Reason) :
    crimpReasons cam r rs =
      let addIf (p : Prop) [Decidable p] (r : Reason) (rs : List Reason) : List Reason := if p then addReason r rs else rs
      addIf (r.qualified = false) .crimpForce
        (addIf (r.diameter < cam.diameterMin ∨ cam.diameterMax < r.diameter) .crimpDiameter
          (addIf (r.depth < cam.depthMin ∨ cam.depthMax < r.depth) .crimpDepth rs)) := by
  simp only [crimpReasons, addReasonIf, Bool.not_eq_true', Bool.or_eq_true, decide_eq_true_eq]

section Events
variable {hd : Head} {c : Context}

section Held
variable (held : hd.ctx = some c)
include held

/-- The dwell's end records the gauge and the mark, tests them, and leaves the head CRIMPED, or VENTING held on under a halt
hold (R86, R93, R110, R112, R113). -/
theorem Head.onDwellExpiry_crimping (crimping : hd.state = .crimping) (runs : hd.dwellTimer.isSome = true) (gauge : Gauge) :
    let d := { c with crimp := some (hd.crimpResult gauge), reasons := crimpReasons c.cam (hd.crimpResult gauge) c.reasons }
    hd.onDwellExpiry gauge
      = if hd.haltHold then hd.releaseCollet.holdVent d else { hd.releaseCollet with ctx := some d, state := .crimped } := by
  obtain ⟨ends, timer⟩ := Option.isSome_iff_exists.1 runs
  simp only [Head.onDwellExpiry, crimping, held, timer]

/-- The vent angle cuts a crimp short with CRIMP_SHORT alone, and vents held on under a halt hold (R87, R93). -/
theorem Head.onVent_crimping (crimping : hd.state = .crimping) (now : Nat) (gauge : Gauge) :
    let d := { c with crimp := some (hd.crimpResult gauge), reasons := addReason .crimpShort c.reasons }
    hd.onVent now gauge = if hd.haltHold then hd.releaseCollet.holdVent d else hd.releaseCollet.beginVent now d := by
  simp only [Head.onVent, crimping, held]

theorem Head.onVent_crimped (crimped : hd.state = .crimped) (now : Nat) (gauge : Gauge) :
    hd.onVent now gauge = hd.beginVent now c := by
  simp only [Head.onVent, crimped, held]

section Venting
variable (venting : hd.state = .venting) (runs : hd.ventTimer.isSome = true) {left : Nat}
include venting runs

theorem Head.onVentExpiry_on (mode : hd.ventMode = .pulsing left true) (now : Nat) :
    hd.onVentExpiry now = { hd with
      ventValve := false, ventMode := .pulsing left false
      ventTimer := some (now + (c.cam.ventPeriod - c.cam.ventOn) * 1000) } := by
  obtain ⟨ends, timer⟩ := Option.isSome_iff_exists.1 runs
  simp only [Head.onVentExpiry, venting, held, mode, timer]

theorem Head.onVentExpiry_off (mode : hd.ventMode = .pulsing left false) (now : Nat) :
    hd.onVentExpiry now =
      if 1 < left then { hd with
        ventValve := true, ventMode := .pulsing (left - 1) true
        ventTimer := some (now + c.cam.ventOn * 1000) }
      else { hd with ventValve := true, ventMode := .held, ventTimer := none } := by
  obtain ⟨ends, timer⟩ := Option.isSome_iff_exists.1 runs
  simp only [Head.onVentExpiry, venting, held, mode, timer]

end Venting

theorem Head.onHalt_vents (st : hd.state ∈ [HeadState.bound, .sealed, .settling, .crimped, .venting]) (now : Nat) :
    hd.onHalt now = hd.holdVent c.abort := by
  simp only [List.mem_cons, List.not_mem_nil, or_false] at st
  rcases st with st | st | st | st | st <;> simp only [Head.onHalt, st, held]

theorem Head.onHalt_crimping (crimping : hd.state = .crimping) (now : Nat) :
    hd.onHalt now = { hd with ctx := some c.abort, haltHold := true } := by
  simp only [Head.onHalt, crimping, held]

theorem Head.onHalt_gassing (gassing : hd.state = .gassing) {g : GasStart} (started : c.start = some g) (now : Nat) :
    hd.onHalt now
      = (hd.stopGas .aborted (now - g.openedAt) c).holdVent (c.endGassing .aborted (now - g.openedAt)) := by
  simp only [Head.onHalt, gassing, held, Context.gasElapsed, started]

end Held

theorem Head.onVentExpiry_idle (idle : hd.ventTimer = none) (now : Nat) : hd.onVentExpiry now = hd := by
  unfold Head.onVentExpiry
  split <;> simp_all

theorem Head.onHalt_left (st : hd.state = .idle ∨ hd.state = .lifted) (now : Nat) : hd.onHalt now = hd := by
  rcases st with st | st <;> simp only [Head.onHalt, st]

theorem Head.onResetVentExpiry_eq (hd : Head) :
    hd.onResetVentExpiry
      = if hd.resetVentTimer.isSome then { hd with ventValve := false, resetVentTimer := none } else hd := by
  cases timer : hd.resetVentTimer <;> simp [Head.onResetVentExpiry, timer]

end Events

end Sys2Proof.Machine

namespace Sys2Proof.Proofs
open Sys2Proof.Machine

/-- Settles O32: both ends of a crimp release the collet and record the gauge; the dwell's tests it, the vent angle's does
not. -/
theorem theCrimpEndsByDwellOrVentAngle : Obligations.TheCrimpEndsByDwellOrVentAngle := by
  unfold Obligations.TheCrimpEndsByDwellOrVentAngle
  intro dt h gauge s c crimping held runs hd kept depth diameter addIf figures tested short released heldOn
  have result : hd.crimpResult gauge = ⟨depth, diameter, hd.qualified⟩ := by
    simp only [Head.crimpResult, clampTo_eq]
    rfl
  have ranDwell : { c with crimp := some (hd.crimpResult gauge)
                           reasons := crimpReasons c.cam (hd.crimpResult gauge) c.reasons } = tested := by
    rw [crimpReasons_eq, result]
  have cut : { c with crimp := some (hd.crimpResult gauge), reasons := addReason .crimpShort c.reasons } = short := by
    rw [result]
  constructor
  · refine congrArg (fun x => Host.Outcome.next (State.setHead h x (s.elapse dt))) ?_
    refine (Head.onDwellExpiry_crimping held crimping runs gauge).trans ?_
    rw [ranDwell]
    rfl
  · refine congrArg (State.setHead h · s) ?_
    refine (Head.onVent_crimping held crimping s.now gauge).trans ?_
    rw [cut]
    by_cases hold : hd.haltHold = true
    · rw [if_pos hold, if_pos (.inl hold)]
      rfl
    · rw [if_neg hold, Head.beginVent]
      exact if_congr (by simp [hold, short, figures]) rfl rfl

/-- Settles O33: the vent begins held or pulsing, and each expiry moves the pulse along. -/
theorem theVentPulsesThenHolds : Obligations.TheVentPulsesThenHolds := by
  unfold Obligations.TheVentPulsesThenHolds
  intro dt h gauge s c hd became
  have becomes : ∀ {new : Head}, hd.onVentExpiry (s.now + dt) = new → became new :=
    fun event => congrArg (fun x => Host.Outcome.next (State.setHead h x (s.elapse dt))) event
  refine ⟨fun crimped held => ?_, fun left venting held runs => ⟨fun mode => ?_, fun mode more => ?_, fun mode last => ?_⟩,
    fun idle => ?_, ?_⟩
  · refine congrArg (State.setHead h · s) ((Head.onVent_crimped held crimped s.now gauge).trans ?_)
    rw [Head.beginVent, Head.holdVent, ← held]
  · exact becomes (Head.onVentExpiry_on held venting runs mode _)
  · exact becomes ((Head.onVentExpiry_off held venting runs mode _).trans (if_pos more))
  · exact becomes ((Head.onVentExpiry_off held venting runs mode _).trans (if_neg (not_lt.2 last)))
  · exact congrArg Host.Outcome.next (State.onHead_same (s := s.elapse dt) (Head.onVentExpiry_idle idle _))
  · refine congrArg Host.Outcome.next ?_
    split
    · rename_i runs
      exact congrArg (State.setHead h · (s.elapse dt)) (hd.onResetVentExpiry_eq.trans (if_pos runs))
    · rename_i idle
      exact State.onHead_same (s := s.elapse dt) (hd.onResetVentExpiry_eq.trans (if_neg idle))

/-- Settles O34: the message is taken off the inbox, and the head then acts by its state. -/
theorem haltAtAHeadByItsState : Obligations.HaltAtAHeadByItsState := by
  unfold Obligations.HaltAtAHeadByItsState
  intro dt h s hd became
  have becomes : ∀ {new : Head}, hd.onHalt (s.now + dt) = new → became new :=
    fun event => congrArg (fun x => Host.Outcome.next (State.setHead h x (s.elapse dt))) event
  refine ⟨fun left => becomes (Head.onHalt_left left _), fun c held => ⟨fun st => ?_, fun crimping => ?_,
    fun g gassing started => ?_⟩⟩
  · exact becomes (Head.onHalt_vents held st _)
  · exact becomes (Head.onHalt_crimping held crimping _)
  · refine becomes ((Head.onHalt_gassing held gassing started _).trans ?_)
    rw [Context.endGassing_started started]
    rfl

end Sys2Proof.Proofs
end

section
/-! SUPPORT. The checks of a HEAD-WRITE, and the heads and the store right after a reset (R96, R98, R114, R170, R173). -/

namespace Sys2Proof

/-- Every field of a head entry lies in its range (section 5.7). -/
abbrev HeadFields.InRange (f : HeadFields) : Prop :=
  f.enabled ≤ 1 ∧ f.valveClass ≤ 3 ∧ (-100 ≤ f.bellOffset ∧ f.bellOffset ≤ 100)
    ∧ (-50 ≤ f.depthOffset ∧ f.depthOffset ≤ 50) ∧ (-50 ≤ f.diameterOffset ∧ f.diameterOffset ≤ 50)

/-- The entry that checked fields spell (R96). -/
def HeadFields.entry (f : HeadFields) : Machine.HeadEntry :=
  { enabled := decide (f.enabled = 1), valveClass := Fin.ofNat 4 f.valveClass, bellOffset := f.bellOffset
    depthOffset := f.depthOffset, diameterOffset := f.diameterOffset }

end Sys2Proof

namespace Sys2Proof.Machine

/-! ## HEAD-WRITE -/

theorem headEntryOf_some {f : HeadFields} (range : f.InRange) : headEntryOf f = some f.entry := by
  obtain ⟨enabled, valveClass, offsets⟩ := range
  have below : f.valveClass < 4 := Nat.lt_succ_of_le valveClass
  rw [headEntryOf, dif_pos ⟨enabled, below, offsets⟩]
  simp [HeadFields.entry, Fin.ofNat, Nat.mod_eq_of_lt below, Bool.beq_eq_decide_eq]

theorem headEntryOf_none {f : HeadFields} (range : ¬ f.InRange) : headEntryOf f = none :=
  dif_neg fun ⟨enabled, valveClass, offsets⟩ => range ⟨enabled, Nat.le_of_lt_succ valveClass, offsets⟩

theorem dealHeadWrite_badHead {n : Nat} (above : 23 < n) (resetCount : Bool) (f : HeadFields) (s : State) :
    dealHeadWrite n resetCount f s = unchanged s .badField := by
  rw [dealHeadWrite, headNo_none above]

theorem dealHeadWrite_badFields {f : HeadFields} (range : ¬ f.InRange) (n : Nat) (resetCount : Bool) (s : State) :
    dealHeadWrite n resetCount f s = unchanged s .badField := by
  rw [dealHeadWrite, headEntryOf_none range]
  cases headNo n <;> rfl

/-- A HEAD-WRITE in its ranges is still refused if it enables a head at the fault limit without the reset (R96). -/
theorem dealHeadWrite_inRange {f : HeadFields} (range : f.InRange) (h : HeadNo) (resetCount : Bool) (s : State) :
    dealHeadWrite h.val resetCount f s =
      if f.enabled = 1 ∧ resetCount = false ∧ s.report.faultLimit ≤ (s.head h).faults then unchanged s .badField
      else ⟨s.onHead h (Head.write f.entry resetCount), .done, []⟩ := by
  simp only [dealHeadWrite, headNo_val, headEntryOf_some range, HeadFields.entry, decide_eq_true_eq]

/-! ## The reset -/

@[simp] theorem State.reset_head (h : HeadNo) :
    State.reset.head h = Head.afterReset HeadEntry.blank Config.resetVentTime := by
  simp [State.reset, State.head]

@[simp] theorem State.reset_slot (p : SlotNo) : State.reset.slot p = { live := none, pending := .none, version := 0 } := by
  simp [State.reset, State.slot]

theorem State.reset_ctx (h : HeadNo) : (State.reset.head h).ctx = none := by
  rw [State.reset_head]
  rfl

theorem State.reset_recipesFit : State.reset.RecipesFit := by
  refine ⟨by decide, fun p => ?_, fun _ p => ?_⟩ <;> rw [State.reset_slot]
  · exact Slot.fits_empty _ (by decide)
  · rfl

theorem State.reset_countersFit : State.reset.CountersFit := by
  refine ⟨fun h => ?_, by decide, fun k => ?_⟩
  · simp [State.reset, HeadCounters.all]
  · simp [State.reset]

/-! What a reset makes of the store, by the operation in flight (R170, R173). -/

section Settle
variable {st : Store}

theorem Store.settle_of_idle (idle : st.op = none) : st.settle = { st with op := none, timer := none } := by
  rw [Store.settle, idle]

theorem Store.settle_of_headWrite {k : HeadNo} {e : HeadEntry} (writes : st.op = some (.headWrite k e)) :
    st.settle = { st with entries := st.entries.set k none, op := none, timer := none } := by
  rw [Store.settle, writes]

theorem Store.settle_of_markWrite {m : BitVec 4} (writes : st.op = some (.markWrite m)) :
    st.settle = { st with marks := 0, op := none, timer := none } := by
  rw [Store.settle, writes]

end Settle

end Sys2Proof.Machine

namespace Sys2Proof.Proofs
open Sys2Proof.Machine

/-- Settles O47: the head first, then the fields, then the fault limit. -/
theorem headWriteIsCheckedWhole : Obligations.HeadWriteIsCheckedWhole := by
  unfold Obligations.HeadWriteIsCheckedWhole
  intro dt tag n resetCount f s admits u refused inRange
  have answers : ∀ {t : State} {result : Result}, dealHeadWrite n resetCount f u = ⟨t, result, []⟩ →
      exec (.headWrite dt tag n resetCount f) s = .next (t.answering 8 tag result []) :=
    fun dealt => exec_answers rfl rfl admits dealt
  refine ⟨fun above => answers (dealHeadWrite_badHead above resetCount f u),
    fun out => answers (dealHeadWrite_badFields out n resetCount u), ?_⟩
  rintro h rfl range
  have dealt := dealHeadWrite_inRange range h resetCount u
  intro barred
  exact ⟨fun barred => answers (dealt.trans (if_pos barred)), fun free => answers (dealt.trans (if_neg free))⟩

/-- Settles O4: the store is settled first, and the heads are loaded from what it then holds. -/
theorem resetLoadsTheHeadsFromTheStore : Obligations.ResetLoadsTheHeadsFromTheStore := by
  unfold Obligations.ResetLoadsTheHeadsFromTheStore
  intro dt pins s
  let t := (s.elapse dt).resetPart pins
  have store : t.store = s.store.settle := rfl
  have heads : ∀ h, t.head h
      = Head.afterReset (t.store.entries[h].getD HeadEntry.blank) (s.now + dt + Config.resetVentTime) :=
    State.resetPart_head _ pins
  obtain ⟨op, timer⟩ := s.store.settle_op
  refine ⟨t, rfl, store ▸ op, store ▸ timer, ?_, fun h => ?_, fun h => ?_⟩
  · rw [store]
    rcases op : s.store.op with _ | ⟨k, e⟩ | m
    · rw [Store.settle_of_idle op]
    · rw [Store.settle_of_headWrite op]
    · rw [Store.settle_of_markWrite op]
  · rw [store]
    rcases op : s.store.op with _ | ⟨k, e⟩ | m
    · rw [Store.settle_of_idle op]
    · rw [Store.settle_of_headWrite op]
      simp [Vector.getElem_set, Fin.ext_iff, eq_comm]
    · rw [Store.settle_of_markWrite op]
  · rw [heads h]
    cases t.store.entries[h] <;> rfl

/-- Settles O51: no head holds a can, no queue a ticket or frame, and every value stands at its reset value. -/
theorem resetIsSafe : Obligations.ResetIsSafe := by
  unfold Obligations.ResetIsSafe
  have noCan : ∀ {Q : Context → Prop} (h : HeadNo), ∀ c ∈ (State.reset.head h).ctx, Q c := by
    intro Q h c mem
    rw [State.reset_ctx] at mem
    cases mem
  refine ⟨fun h => ?_, fun _ => State.reset_ctx, by decide, State.reset_recipesFit, noCan, noCan, by decide,
    ⟨.nil, nofun, fun h _ _ => noCan h⟩, State.reset_trackerFits, by decide, rfl, by decide,
    State.reset_lineConfigurationFits, fun h => ?_, State.reset_countersFit⟩
  · rw [State.reset_head]
    exact Head.afterReset_fits _ _
  · rw [State.reset_head]
    exact Head.afterReset_readingsFit _ _

end Sys2Proof.Proofs
end

section
/-! SUPPORT. A bell sample and a force sample at one head, part by part (R101, R102, R104, R106, R109). -/

namespace Sys2Proof.Machine

/-- The states in which a reading raises the peak, as a list (R102). -/
theorem HeadState.tracksPeak_eq (st : HeadState) :
    st.tracksPeak = decide (st ∈ [HeadState.gassing, .settling, .crimping, .crimped, .venting]) := by
  cases st <;> rfl

section Sample
variable (hd : Head)

/-- A reading above the peak becomes the peak, in a state that tracks it (R102). -/
theorem Head.raisePeak_eq :
    hd.raisePeak = { hd with
      ctx := hd.ctx.map fun c => { c with
        peak := c.peak.map fun p => if hd.state.tracksPeak ∧ p < hd.reading then hd.reading else p } } := by
  unfold Head.raisePeak
  split
  · rename_i tracks
    have raised : max hd.reading = fun p => if p < hd.reading then hd.reading else p := by
      funext p
      rw [max_comm, max_def_lt]
    simp only [tracks, raised, true_and]
  · rename_i leaves
    simp [leaves]

/-- An armed comparator whose level the reading reaches is disarmed and trips once (R104). -/
theorem Head.testComparator_eq :
    let tripped := hd.comparator.any fun level => decide (level ≤ hd.reading)
    hd.testComparator = { hd with
      comparator := if tripped then none else hd.comparator
      inbox := { hd.inbox with trips := hd.inbox.trips + if tripped then 1 else 0 } } := by
  intro tripped
  have tests : hd.testComparator =
      if tripped then { hd with comparator := none, inbox := { hd.inbox with trips := hd.inbox.trips + 1 } }
      else hd := by
    unfold Head.testComparator
    cases level : hd.comparator <;> simp [tripped, level]
  rw [tests]
  clear_value tripped
  cases tripped <;> rfl

/-- A seal watch whose level the reading reaches is turned off and reports once (R106). -/
theorem Head.testSealWatch_eq :
    let sealed := hd.sealWatch.any fun level => decide (level ≤ hd.reading)
    hd.testSealWatch = { hd with
      sealWatch := if sealed then none else hd.sealWatch
      inbox := { hd.inbox with sealReports := hd.inbox.sealReports + if sealed then 1 else 0 } } := by
  intro sealed
  have tests : hd.testSealWatch =
      if sealed then { hd with sealWatch := none, inbox := { hd.inbox with sealReports := hd.inbox.sealReports + 1 } }
      else hd := by
    unfold Head.testSealWatch
    cases level : hd.sealWatch <;> simp [sealed, level]
  rw [tests]
  clear_value sealed
  cases sealed <;> rfl

/-- Without a qualification a force sample changes nothing (R109). -/
theorem Head.forceSample_off (off : hd.qualification = none) (newtons : Int) : hd.forceSample newtons = hd := by
  simp only [Head.forceSample, off]

/-- A force sample of a running qualification counts the run until it reaches the mark (R109). -/
theorem Head.forceSample_running {q : Qualification} (running : hd.qualification = some q) (newtons : Int) :
    hd.forceSample newtons =
      if hd.qualified then hd
      else if (q.threshold : Int) ≤ newtons then
        { hd with runCount := hd.runCount + 1, qualified := decide (hd.runCount + 1 = q.runLength) }
      else { hd with runCount := 0 } := by
  simp only [Head.forceSample, running]
  rfl

end Sample

end Sys2Proof.Machine

namespace Sys2Proof.Proofs
open Sys2Proof.Machine

/-- Settles O36: the reading is formed first, and the peak, the comparator and the seal watch are each tested against it. -/
theorem samplesAtAHead : Obligations.SamplesAtAHead := by
  unfold Obligations.SamplesAtAHead
  intro dt h raw newtons s hd reading tracks tripped sealed
  constructor
  · refine congrArg (fun x => Host.Outcome.next (State.setHead h x (s.elapse dt))) ?_
    have formed : bellReading hd.entry raw = reading := clampTo_eq 1500 _
    have tracked : hd.state.tracksPeak = tracks := hd.state.tracksPeak_eq
    change hd.bellSample raw = _
    have trips : (hd.comparator.any fun level => decide (level ≤ reading)) = tripped := by
      dsimp only [tripped]
      split <;> rename_i armed <;> rw [armed] <;> rfl
    have reports : (hd.sealWatch.any fun level => decide (level ≤ reading)) = sealed := by
      dsimp only [sealed]
      split <;> rename_i watching <;> rw [watching] <;> rfl
    rw [Head.bellSample, formed, Head.raisePeak_eq, Head.testComparator_eq, Head.testSealWatch_eq]
    simp only [tracked, trips, reports]
  · refine congrArg Host.Outcome.next ?_
    split
    · rename_i off
      exact State.onHead_same (s := s.elapse dt) (hd.forceSample_off off newtons)
    · rename_i q running
      have counts := hd.forceSample_running running newtons
      split
      · rename_i qualified
        exact State.onHead_same (s := s.elapse dt) (counts.trans (if_pos qualified))
      · rename_i unqualified
        refine (congrArg (State.setHead h · (s.elapse dt)) (counts.trans (if_neg unqualified))).trans ?_
        exact apply_ite (State.setHead h · (s.elapse dt)) _ _ _

end Sys2Proof.Proofs
end

section
/-! SUPPORT. The supply monitor's judgement of a manifold sample in each supply state, and the dip timer's expiry
(R116 to R120). -/

namespace Sys2Proof.Machine

/-- Pm is the sample, kept in 0..1500 (R116). -/
theorem manifoldPressure_eq (raw : Int) :
    manifoldPressure raw = if raw < 0 then 0 else if 1500 < raw then 1500 else raw.toNat :=
  clampTo_eq 1500 raw

section Judge
variable {now : Nat} {u : Supply}

/-- A NORMAL supply goes to DIP below the trip level and starts the dip timer (R117). -/
theorem Supply.judge_of_normal (state : u.state = .normal) :
    u.judge now =
      if u.pm < tripLevel u.levelPair then
        { u with state := .dip, dipTimer := some (now + u.dipTolerance * 1000) }
      else u := by
  simp only [Supply.judge, state]

/-- A supply in DIP goes back to NORMAL at the release level and cancels the dip timer (R118). -/
theorem Supply.judge_of_dip (state : u.state = .dip) :
    u.judge now =
      if releaseLevel u.levelPair ≤ u.pm then { u with state := .normal, dipTimer := none } else u := by
  simp only [Supply.judge, state]

/-- A LOW supply goes back to NORMAL at the release level (R120). -/
theorem Supply.judge_of_low (state : u.state = .low) :
    u.judge now = if releaseLevel u.levelPair ≤ u.pm then { u with state := .normal } else u := by
  simp only [Supply.judge, state]

end Judge

/-- Outside a running dip the expiry changes nothing (R119). -/
theorem exec_dipTimerExpiry_idle {s : State} (dt : Nat)
    (idle : ¬ (s.supply.state = .dip ∧ s.supply.dipTimer.isSome = true)) :
    exec (.dipTimerExpiry dt) s = .next (s.waiting dt) :=
  if_neg idle

/-- In a running dip the expiry enters LOW (R119). -/
theorem exec_dipTimerExpiry_running {s : State} (dt : Nat) (state : s.supply.state = .dip)
    (timer : s.supply.dipTimer.isSome = true) : exec (.dipTimerExpiry dt) s = .next (s.elapse dt).enterLow :=
  if_pos ⟨state, timer⟩

end Sys2Proof.Machine

namespace Sys2Proof.Proofs
open Sys2Proof.Machine

/-- Settles O37: the sample is judged by the supply state it finds, and the expiry enters LOW in a running dip alone. -/
theorem supplyFollowsTheManifold : Obligations.SupplyFollowsTheManifold := by
  unfold Obligations.SupplyFollowsTheManifold
  intro dt raw s pm trip u
  refine ⟨?_, exec_dipTimerExpiry_idle dt, fun state timer => ?_⟩
  · refine congrArg (fun x => Host.Outcome.next { s with now := s.now + dt, supply := x }) ?_
    have formed : { s.supply with pm := manifoldPressure raw } = u := by rw [manifoldPressure_eq]
    rw [formed]
    split <;> rename_i state
    · exact Supply.judge_of_normal (u := u) state
    · exact Supply.judge_of_dip (u := u) state
    · exact Supply.judge_of_low (u := u) state
  · refine ⟨(s.elapse dt).enterLow, exec_dipTimerExpiry_running dt state timer, (s.elapse dt).enterLow_head, ?_⟩
    obtain ⟨hs, entered⟩ := (s.elapse dt).enterLow_frame
    rw [entered]
    rfl

end Sys2Proof.Proofs
end

section
/-! SUPPORT. The scopes of COUNTERS: what each reports and what a clear of it sets to 0 (R136, R167). -/

namespace Sys2Proof.Machine

/-- A scope byte names a head, one of the three part-wide scopes, or nothing (R136, R167). -/
inductive ScopeCase : Nat → Prop
  | head (h : HeadNo) : ScopeCase h.val
  | kinds : ScopeCase 252
  | lowRejects : ScopeCase 253
  | highRejects : ScopeCase 254
  | undefined {n : Nat} (above : 23 < n) (other : n ∉ [252, 253, 254]) : ScopeCase n

theorem ScopeCase.of (n : Nat) : ScopeCase n := by
  by_cases above : 23 < n
  · by_cases part : n ∈ [252, 253, 254]
    · simp only [List.mem_cons, List.not_mem_nil, or_false] at part
      rcases part with rfl | rfl | rfl
      · exact .kinds
      · exact .lowRejects
      · exact .highRejects
    · exact .undefined above part
  · exact .head ⟨n, by omega⟩

/-! ## What a scope reports -/

theorem State.scopeBytes_head (h : HeadNo) (s : State) :
    s.scopeBytes h.val = some ([s.report.heads[h].processed, s.report.heads[h].accepted, s.report.heads[h].rejected,
      s.report.heads[h].headFaults].flatMap (bytesOf 4)) := by
  simp only [State.scopeBytes, headNo_val]

theorem State.scopeBytes_kinds (s : State) : s.scopeBytes 252 = some (s.report.part.kinds.flatMap (bytesOf 4)) := rfl

theorem State.scopeBytes_lowRejects (s : State) :
    s.scopeBytes 253 = some ((s.report.part.rejects.toList.take 8).flatMap (bytesOf 4)) := rfl

theorem State.scopeBytes_highRejects (s : State) :
    s.scopeBytes 254 = some ((s.report.part.rejects.toList.drop 8).flatMap (bytesOf 4)) := rfl

theorem State.scopeBytes_undefined {n : Nat} (above : 23 < n) (other : n ∉ [252, 253, 254]) (s : State) :
    s.scopeBytes n = none := by
  simp only [List.mem_cons, List.not_mem_nil, or_false, not_or] at other
  obtain ⟨kinds, low, high⟩ := other
  simp only [State.scopeBytes, headNo_none above, if_neg kinds, if_neg low, if_neg high]

/-! ## What a clear sets to 0 -/

theorem State.clearScope_head (h : HeadNo) (s : State) : s.clearScope h.val = s.bumpHead h fun _ => ⟨0, 0, 0, 0⟩ := by
  simp only [State.clearScope, headNo_val]

theorem State.clearScope_undefined {n : Nat} (above : 23 < n) (other : n ∉ [252, 253, 254]) (s : State) :
    s.clearScope n = s := by
  simp only [List.mem_cons, List.not_mem_nil, or_false, not_or] at other
  obtain ⟨kinds, low, high⟩ := other
  simp only [State.clearScope, headNo_none above, if_neg kinds, if_neg low, if_neg high]

/-- A clear touches the counters alone. -/
theorem State.clearScope_frame (n : Nat) (s : State) : ∃ heads part,
    s.clearScope n = { s with report := { s.report with heads := heads, part := part } } := by
  cases ScopeCase.of n with
  | head h => exact ⟨_, s.report.part, s.clearScope_head h⟩
  | kinds | lowRejects | highRejects => exact ⟨s.report.heads, _, rfl⟩
  | undefined above other => exact ⟨s.report.heads, s.report.part, s.clearScope_undefined above other⟩

/-- The four counters of a head are cleared by its own scope alone. -/
theorem State.clearScope_heads (n : Nat) (s : State) (h : HeadNo) :
    (s.clearScope n).report.heads[h] = if n = h.val then ⟨0, 0, 0, 0⟩ else s.report.heads[h] := by
  have small := h.isLt
  cases ScopeCase.of n with
  | head k =>
    rw [State.clearScope_head]
    by_cases own : k = h
    · subst own
      simp
    · have apart : k.val ≠ h.val := fun same => own (Fin.ext same)
      simp [apart, Vector.getElem_set_ne _ _ apart]
  | kinds | lowRejects | highRejects => exact (if_neg (by omega)).symm
  | undefined above other => rw [s.clearScope_undefined above other, if_neg (by omega)]

/-- The nine part-wide counters are cleared by the scope 252 alone. -/
theorem State.clearScope_kinds (n : Nat) (s : State) :
    (s.clearScope n).report.part.kinds = if n = 252 then [0, 0, 0, 0, 0, 0, 0, 0, 0] else s.report.part.kinds := by
  cases ScopeCase.of n with
  | head k => rw [State.clearScope_head, State.bumpHead_report, if_neg (by have := k.isLt; omega)]
  | kinds | lowRejects | highRejects => rfl
  | undefined above other => rw [s.clearScope_undefined above other, if_neg (by simp at other; omega)]

/-- The rejects per reason are cleared eight by eight by the scopes 253 and 254. -/
theorem State.clearScope_rejects (n : Nat) (s : State) (k : Fin 16) :
    (s.clearScope n).report.part.rejects[k]
      = if (n = 253 ∧ k.val < 8) ∨ (n = 254 ∧ 8 ≤ k.val) then 0 else s.report.part.rejects[k] := by
  cases ScopeCase.of n with
  | head h => rw [State.clearScope_head, State.bumpHead_report, if_neg (by have := h.isLt; omega)]
  | kinds => exact (if_neg (by omega)).symm
  | lowRejects =>
    by_cases low : k.val < 8 <;> simp [State.clearScope, headNo, low]
  | highRejects =>
    by_cases low : k.val < 8
    · simp [State.clearScope, headNo, low]
    · simp [State.clearScope, headNo, low, not_lt.1 low]
  | undefined above other => rw [s.clearScope_undefined above other, if_neg (by simp at other; omega)]

end Sys2Proof.Machine
end

section
/-! SUPPORT. The counters: what every command but a clear and a reset does to each of them, and what those two leave in range
(R134 to R137). -/

namespace Sys2Proof

/-- The requests that can lower a counter: a RESTART and a COUNTERS with the clear option (R134). -/
def Request.lowers : Request → Bool
  | .restart | .counters _ true => true
  | _ => false

end Sys2Proof

namespace Sys2Proof.Machine

/-! ## One counter -/

/-- A counter goes from `n` to `m` without falling and without leaving its range (R134). -/
def CounterRises (n m : Nat) : Prop := n ≤ m ∧ (n ≤ Config.counterMax → m ≤ Config.counterMax)

@[simp] theorem CounterRises.refl (n : Nat) : CounterRises n n := ⟨le_rfl, id⟩

@[simp] theorem CounterRises.bump (n : Nat) : CounterRises n (bump n) := ⟨le_bump n, bump_le⟩

theorem CounterRises.trans {n m k : Nat} (a : CounterRises n m) (b : CounterRises m k) : CounterRises n k :=
  ⟨a.1.trans b.1, b.2 ∘ a.2⟩

/-- Each counter of a list rises to the one at its place in another. -/
abbrev CountersRise (a b : List Nat) : Prop := List.Forall₂ CounterRises a b

theorem CountersRise.refl (a : List Nat) : CountersRise a a := List.forall₂_same.2 fun n _ => .refl n

theorem CountersRise.trans {a b c : List Nat} (ab : CountersRise a b) (bc : CountersRise b c) : CountersRise a c := by
  induction ab generalizing c with
  | nil => exact bc
  | cons head _ ih =>
    cases bc with
    | cons head' tail' => exact .cons (head.trans head') (ih tail')

/-- Counters that rise stay in their range (R134). -/
theorem CountersRise.inRange {a b : List Nat} (rise : CountersRise a b) (fits : ∀ n ∈ a, n ≤ Config.counterMax) :
    ∀ n ∈ b, n ≤ Config.counterMax := by
  induction rise with
  | nil => exact fits
  | cons head _ ih =>
    rw [List.forall_mem_cons] at fits ⊢
    exact ⟨head.2 fits.1, ih fits.2⟩

/-! ## The counters of the report unit -/

/-- The counters of a head rise. -/
abbrev HeadCounters.Rise (k l : HeadCounters) : Prop := CountersRise k.all l.all

/-- The part-wide counters rise. -/
abbrev PartCounters.Rise (p q : PartCounters) : Prop :=
  CountersRise p.kinds q.kinds ∧ ∀ k : Fin 16, CounterRises p.rejects[k] q.rejects[k]

/-- The counters of the report unit rise. -/
abbrev Report.Rise (r q : Report) : Prop := (∀ h : HeadNo, r.heads[h].Rise q.heads[h]) ∧ r.part.Rise q.part

theorem PartCounters.Rise.refl (p : PartCounters) : p.Rise p := ⟨.refl _, fun _ => .refl _⟩

theorem PartCounters.Rise.trans {p q r : PartCounters} (a : p.Rise q) (b : q.Rise r) : p.Rise r :=
  ⟨a.1.trans b.1, fun k => (a.2 k).trans (b.2 k)⟩

theorem Report.Rise.trans {r q p : Report} (a : r.Rise q) (b : q.Rise p) : r.Rise p :=
  ⟨fun h => (a.1 h).trans (b.1 h), a.2.trans b.2⟩

/-- What leaves the heads' counters needs only the part-wide ones to rise. -/
theorem Report.Rise.ofPart {r q : Report} (heads : q.heads = r.heads) (part : r.part.Rise q.part) : r.Rise q :=
  ⟨fun _ => heads ▸ .refl _, part⟩

/-- What leaves every counter. -/
theorem Report.Rise.same {r q : Report} (heads : q.heads = r.heads) (part : q.part = r.part) : r.Rise q :=
  .ofPart heads (part ▸ .refl _)

/-- The counters of one head rise. -/
theorem Report.Rise.setHead {r : Report} {h : HeadNo} {k : HeadCounters} (rise : r.heads[h].Rise k) :
    r.Rise { r with heads := r.heads.set h k } := by
  refine ⟨fun j => ?_, .refl _⟩
  by_cases own : j = h
  · subst own
    simpa using rise
  · have apart : h.val ≠ j.val := fun same => own (Fin.ext same.symm)
    simp [Vector.getElem_set_ne _ _ apart]

/-- What an event can do to the nine counters of the part: raise one of them by 1 (section 8.5). -/
@[simp] def PartCounters.bumps : List (PartCounters → PartCounters) :=
  [.bumpVoids, .bumpUntracked, .bumpDuplicates, .bumpOverruns, .bumpMalformed, .bumpRelayDrops, .bumpVerdictsLost,
    .bumpRepliesLost, .bumpHeadBusy]

theorem PartCounters.bumps_rise {f : PartCounters → PartCounters} (one : f ∈ PartCounters.bumps) (p : PartCounters) :
    p.Rise (f p) := by
  simp only [PartCounters.bumps, List.mem_cons, List.not_mem_nil, or_false] at one
  rcases one with rfl | rfl | rfl | rfl | rfl | rfl | rfl | rfl | rfl
  all_goals
    refine ⟨?_, fun k => .refl p.rejects[k]⟩
    simp [PartCounters.kinds, PartCounters.bumpVoids, PartCounters.bumpUntracked, PartCounters.bumpDuplicates,
      PartCounters.bumpOverruns, PartCounters.bumpMalformed, PartCounters.bumpRelayDrops, PartCounters.bumpVerdictsLost,
      PartCounters.bumpRepliesLost, PartCounters.bumpHeadBusy]

theorem PartCounters.bumpReject_rise (r : Reason) (p : PartCounters) : p.Rise (p.bumpReject r) := by
  refine ⟨.refl _, fun k => ?_⟩
  by_cases own : r.index = k
  · subst own
    simp [PartCounters.bumpReject]
  · have apart : r.index.val ≠ k.val := fun same => own (Fin.ext same)
    simp [PartCounters.bumpReject, Vector.getElem_set_ne _ _ apart]

theorem PartCounters.bumpRejects_rise (rs : List Reason) (p : PartCounters) : p.Rise (p.bumpRejects rs) := by
  induction rs generalizing p with
  | nil => exact .refl p
  | cons r rs ih => exact (p.bumpReject_rise r).trans (ih _)

/-- A discharge raises the counters of its head, by its verdict and where the cycle was faulty (R135, R137). -/
theorem HeadCounters.discharge_rise (rs : List Reason) (faulty : Bool) (k : HeadCounters) :
    k.Rise ((k.account faulty).bumpDischarge (verdictOf rs)) := by
  rw [HeadCounters.bumpDischarge_account]
  by_cases accepted : rs = [] <;> cases faulty <;> simp [HeadCounters.Rise, HeadCounters.all, accepted]

/-- A frame that is lost is counted (R158). -/
theorem Ring.countLoss_rise (ring : Ring) (r : Report) : r.Rise (ring.countLoss r) := by
  rcases ring.countLoss_cases with same | reply | verdict
  · rw [same]
    exact .same rfl rfl
  · rw [reply]
    exact .ofPart rfl (PartCounters.bumps_rise (f := .bumpRepliesLost) (by simp) _)
  · rw [verdict]
    exact .ofPart rfl (PartCounters.bumps_rise (f := .bumpVerdictsLost) (by simp) _)

/-! ## The counters of the part -/

/-- No counter of `t` is below the same counter of `s`, and each that was in its range is in it. -/
def State.Counts (s t : State) : Prop := s.report.Rise t.report

theorem State.Counts.countersRise {s t : State} (counts : s.Counts t) : s.CountersRise t :=
  have ⟨heads, kinds, rejects⟩ := counts
  ⟨fun h => (heads h).imp fun _ _ rise => rise.1, kinds.imp fun _ _ rise => rise.1, fun k => (rejects k).1⟩

theorem State.Counts.countersFit {s t : State} (counts : s.Counts t) (fits : s.CountersFit) : t.CountersFit :=
  have ⟨heads, kinds, rejects⟩ := counts
  have ⟨headsFit, kindsFit, rejectsFit⟩ := fits
  ⟨fun h => (heads h).inRange (headsFit h), kinds.inRange kindsFit, fun k => (rejects k).2 (rejectsFit k)⟩

theorem State.Counts.trans {s t u : State} (a : s.Counts t) (b : t.Counts u) : s.Counts u := Report.Rise.trans a b

/-- What leaves every counter of the report unit. -/
theorem State.Counts.same {s t : State} (heads : t.report.heads = s.report.heads) (part : t.report.part = s.report.part) :
    s.Counts t :=
  Report.Rise.same heads part

/-- What leaves the report unit leaves the counters. -/
theorem State.Counts.ofReport {s t : State} (report : t.report = s.report) : s.Counts t :=
  .same (congrArg Report.heads report) (congrArg Report.part report)

theorem State.Counts.refl (s : State) : s.Counts s := .ofReport rfl

theorem State.bumpPart_counts {f : PartCounters → PartCounters} (one : f ∈ PartCounters.bumps) (s : State) :
    s.Counts (s.bumpPart f) :=
  Report.Rise.ofPart rfl (PartCounters.bumps_rise one _)

/-- An event is counted and its attention flag set. -/
theorem State.bumpPart_raise_counts {f : PartCounters → PartCounters} (one : f ∈ PartCounters.bumps) (a : AttentionFlag)
    (s : State) : s.Counts ((s.bumpPart f).raise a) :=
  (s.bumpPart_counts one).trans (.same rfl rfl)

theorem State.bumpRejects_counts (rs : List Reason) (s : State) : s.Counts (s.bumpPart (·.bumpRejects rs)) :=
  Report.Rise.ofPart rfl (PartCounters.bumpRejects_rise rs _)

/-! ## The ring port -/

theorem State.arbitrate_counts (s : State) : s.Counts s.arbitrate := by
  obtain ⟨r, frame⟩ := s.arbitrate_frame
  exact .ofReport (by rw [frame])

theorem State.loseReply_counts (s : State) : s.Counts s.loseReply := s.bumpPart_raise_counts (by simp) _

theorem State.offerReply_counts (r : Reply) (s : State) : s.Counts (s.offerReply r) := by
  unfold State.offerReply
  split
  · exact .ofReport (s.enterOrigin_report _ _)
  · exact s.loseReply_counts

theorem State.offerTicket_counts (t : DischargeTicket) (s : State) : s.Counts (s.offerTicket t) := by
  unfold State.Counts
  rw [State.offerTicket_report]
  exact s.ring.countLoss_rise _

theorem State.offerRelay_counts (f : List Byte) (s : State) : s.Counts (s.offerRelay f) := by
  unfold State.offerRelay
  split
  · exact State.arbitrate_counts { s with ring := { s.ring with relay := s.ring.relay ++ [f] } }
  · exact s.bumpPart_raise_counts (by simp) _

theorem State.endSending_counts (s : State) : s.Counts s.endSending :=
  State.arbitrate_counts { s with ring := { s.ring with transmitter := none } }

/-! ## Mode control -/

theorem State.enterHalt_counts (cause : HaltCause) (s : State) : s.Counts (s.enterHalt cause) :=
  .same (by simp) (by simp)

theorem State.takeHalt_counts (cause : HaltCause) (s : State) : s.Counts (s.takeHalt cause) := by
  rcases s.takeHalt_cases cause with ⟨h, -⟩ | ⟨h, -⟩ <;> rw [h]
  · exact .refl s
  · exact s.enterHalt_counts cause

theorem State.takeMode_counts (target : ModeTarget) (s : State) : s.Counts (s.takeMode target).1 := by
  rcases s.takeMode_cases target with h | ⟨h, -⟩ | ⟨h, -⟩ | ⟨h, -⟩ | ⟨h, -⟩ <;> rw [h]
  · exact .refl s
  · exact .ofReport s.enterRun_report
  · exact .ofReport (State.drainCheck_report _)
  · exact s.enterHalt_counts _
  · exact .ofReport s.enterStandby_report

theorem State.takeBroadcast_counts (p : List Byte) (s : State) : s.Counts (s.takeBroadcast p) := by
  unfold State.takeBroadcast
  split
  · exact s.takeMode_counts _
  · exact .refl s

/-- An unsound frame is counted, and a sound one is handed on or offered to the relay queue (R155, R156). -/
theorem State.frameIn_counts (bs : List Byte) (s : State) : s.Counts (s.frameIn bs) := by
  unfold State.frameIn
  split
  · unfold State.route
    dsimp only
    split
    · exact .ofReport rfl
    · split
      · exact .ofReport rfl
      · split
        · exact (s.takeBroadcast_counts _).trans (State.offerRelay_counts _ _)
        · split
          · exact .refl s
          · exact s.offerRelay_counts bs
  · exact s.bumpPart_raise_counts (by simp) _

theorem State.enterLow_counts (s : State) : s.Counts s.enterLow := by
  obtain ⟨hs, frame⟩ := s.enterLow_frame
  rw [frame]
  exact .same rfl rfl

/-! ## The infeed unit -/

/-- A ticket that the infeed unit drops is counted by its cause (R19, R21, R22). -/
theorem State.takeTicket_counts (flags : Byte) (payload : List Byte) (s : State) :
    s.Counts (s.takeTicket flags payload) := by
  unfold State.takeTicket
  split
  · exact s.bumpPart_counts (by simp)
  · unfold State.acceptTicket
    split
    · exact s.bumpPart_raise_counts (by simp) _
    · split
      · exact .ofReport rfl
      · exact s.bumpPart_raise_counts (by simp) _

/-- A ticket emitted at once is counted as a void or by its reason (R135). -/
theorem State.emitAtOnce_counts (t : Ticket) (h : HeadNo) (reason : Option Reason) (s : State) :
    s.Counts (s.emitAtOnce t h reason) := by
  refine .trans ?_ (State.offerTicket_counts _ _)
  unfold State.countEmitted
  split
  · exact s.bumpPart_counts (by simp)
  · exact s.bumpRejects_counts _
  · exact s.bumpRejects_counts _

theorem State.countUntracked_counts (s : State) : s.Counts s.countUntracked :=
  s.bumpPart_raise_counts (by simp) _

theorem State.untrackedCan_counts (h : HeadNo) (s : State) : s.Counts (s.untrackedCan h) := by
  refine s.countUntracked_counts.trans (.ofReport ?_)
  unfold State.untrackedCan
  dsimp only
  split
  · split
    · rfl
    · split <;> rfl
  · rfl

theorem State.dealTicket_counts (h : HeadNo) (t : Ticket) (s : State) : s.Counts (s.dealTicket h t) := by
  unfold State.dealTicket
  split
  · split
    · exact s.emitAtOnce_counts t h _
    · exact .ofReport rfl
  · exact s.emitAtOnce_counts t h _

/-- At a pitch mark a ticket that goes out at once, an untracked can and a busy head are counted (R26, R34, R135). -/
theorem State.infeedPitch_counts (h : HeadNo) (high : Bool) (s : State) : s.Counts (s.infeedPitch h high) := by
  by_cases idle : (s.head h).state = .idle
  · cases queue : s.infeed.queue with
    | nil =>
      rw [State.infeedPitch_empty idle queue]
      split
      · split
        · exact s.unlatched.untrackedCan_counts h
        · exact s.unlatched.countUntracked_counts
      · exact .ofReport rfl
    | cons t rest =>
      rw [State.infeedPitch_ticket idle queue]
      split
      · split
        · exact (s.leaving rest).dealTicket_counts h t
        · exact (s.leaving rest).emitAtOnce_counts t h _
      · exact (s.leaving rest).emitAtOnce_counts t h _
  · rw [State.infeedPitch_busy idle]
    exact s.unlatched.bumpPart_counts (by simp)

/-! ## The crossing -/

theorem State.pitchMark_counts (h : HeadNo) (high : Bool) (s : State) : s.Counts (s.pitchMark h high) := by
  refine .trans (.ofReport (t := (s.setTracker (s.tracker.pitchMark s.now)).promoteAtPitch) ?_)
    (State.infeedPitch_counts h high _)
  unfold State.promoteAtPitch
  split
  · exact State.promoteAll_report _
  · rfl

/-- A discharge counts its can, and the loss of a frame to its ticket (R135, R137, R158). -/
theorem State.reportCan_counts (h : HeadNo) (c : Context) (s : State) : s.Counts (s.reportCan h c) := by
  unfold State.Counts
  rw [State.reportCan_report]
  refine .trans ?_ (s.ring.countLoss_rise _)
  have head := Report.Rise.setHead (s.report.heads[h].discharge_rise c.reasons (faultyCycle c.reasons))
  exact ⟨head.1, s.report.part.bumpRejects_rise c.reasons⟩

theorem takePhase_counts (h : HeadNo) (gauge : Gauge) (e : PhaseEvent) (s : State) : s.Counts (takePhase h gauge e s) := by
  by_cases discharge : e = .discharge
  · subst discharge
    change s.Counts (dischargeEvent h s)
    unfold dischargeEvent
    split
    · rename_i c _ _
      exact (s.reportCan_counts h c).trans (.ofReport (State.drainCheck_report _))
    · exact .refl s
  · obtain ⟨hd, frame⟩ := takePhase_frame h gauge e s discharge
    rw [frame]
    exact .ofReport rfl

theorem deliver_counts (lines : Lines) (s : State) (a : Arrival) : s.Counts (deliver lines s a) := by
  rcases deliver_cases lines s a with h | ⟨-, h⟩ | ⟨k, e, -, -, h⟩ <;> rw [h]
  · exact .refl s
  · exact s.pitchMark_counts _ _
  · exact takePhase_counts k _ e s

theorem crossOnto_counts (c : Nat) (lines : Lines) (order : List Arrival) (s : State) :
    s.Counts (crossOnto c lines order s) :=
  deliverAll_keeps order (fun a t before => before.trans (deliver_counts lines t a)) (.ofReport rfl)

theorem State.forwardEdge_counts (lines : Lines) (order : List Arrival) (s : State) :
    s.Counts (s.forwardEdge lines order) := by
  unfold State.forwardEdge
  dsimp only
  split
  · exact .ofReport rfl
  · exact crossOnto_counts _ lines order (s.setTracker { s.tracker with direction := .forward })

theorem State.reverseEdge_counts (s : State) : s.Counts s.reverseEdge :=
  have moved : ∀ t, s.Counts (s.setTracker t) := fun _ => .ofReport rfl
  (moved _).trans (State.takeHalt_counts .reverse _)

theorem State.indexMark_counts (lines : Lines) (order6143 order0 : List Arrival) (s : State) :
    s.Counts (s.indexMark lines order6143 order0) := by
  have moved : ∀ t, s.Counts (s.setTracker t) := fun _ => .ofReport rfl
  unfold State.indexMark
  dsimp only
  split
  · exact .refl s
  · split
    · split
      · split
        · exact (crossOnto_counts _ lines order6143 s).trans (crossOnto_counts _ lines order0 _)
        · exact crossOnto_counts _ lines order0 s
      · exact moved _
    · split
      · exact moved _
      · exact (moved _).trans (State.takeHalt_counts .encoderSlip _)

/-! ## The requests -/

/-- Any other request leaves the counters. -/
theorem dealRequest_counts {r : Request} (keeps : r.lowers = false) (pins : BitVec 5) (s : State) :
    s.Counts (dealRequest pins r s).state := by
  cases r with
  | unknown | malformed | status => exact .refl s
  | attention => exact .same rfl rfl
  | mode target => exact s.takeMode_counts target
  | restart => cases keeps
  | counters scope clear =>
    cases clear with
    | true => cases keeps
    | false =>
      refine .ofReport ?_
      simp only [dealRequest, dealCounters]
      split <;> rfl
  | latch m =>
    obtain ⟨hs, frame⟩ := s.latchHeads_frame m
    refine .ofReport ?_
    rw [dealRequest, dealLatch, frame]
  | configWrite v =>
    cases v with
    | faultLimit v =>
      simp only [dealRequest, dealConfigWrite, dealFaultLimit]
      split <;> exact .same rfl rfl
    | _ =>
      refine .ofReport ?_
      simp only [dealRequest, dealConfigWrite, dealADis, dealNq, dealLevelPair, dealDipTolerance, dealValves, dealFlow]
      (repeat' split) <;> rfl
  | recipeRead p source half => exact .ofReport (by rw [dealRequest, dealRecipeRead_state])
  | headRead h => exact .ofReport (by rw [dealRequest, dealHeadRead_state])
  | configRead group => exact .ofReport (by rw [dealRequest, dealConfigRead_state])
  | recipeGas | recipeCam | recipeDrop | recipeClear =>
    refine .ofReport ?_
    simp only [dealRequest, dealRecipeGas, dealRecipeCam, dealRecipeDrop, dealRecipeClear]
    (repeat' split) <;> rfl
  | headWrite | headStore | protect | snapshot =>
    refine .ofReport ?_
    simp only [dealRequest, dealHeadWrite, dealHeadStore, dealProtect, dealSnapshot]
    (repeat' split) <;> rfl

/-- A reset leaves every counter at 0 (R142). -/
theorem State.resetPart_countersFit (pins : BitVec 5) (s : State) : (s.resetPart pins).CountersFit := by
  have report : (s.resetPart pins).report = State.reset.report := rfl
  simp [State.CountersFit, report, State.reset, HeadCounters.all, PartCounters.kinds]

/-- A clear sets counters to 0 and leaves the others (R136). -/
theorem State.clearScope_countersFit {s : State} (fits : s.CountersFit) (scope : Nat) :
    (s.clearScope scope).CountersFit := by
  obtain ⟨heads, kinds, rejects⟩ := fits
  refine ⟨fun h => ?_, ?_, fun k => ?_⟩
  · rw [State.clearScope_heads]
    split
    · simp [HeadCounters.all]
    · exact heads h
  · rw [State.clearScope_kinds]
    split
    · simp
    · exact kinds
  · rw [State.clearScope_rejects]
    split
    · exact Nat.zero_le _
    · exact rejects k

/-- Every request leaves the counters in their range, a RESTART and a clear by setting counters to 0. -/
theorem dealRequest_countersFit {s : State} (fits : s.CountersFit) (pins : BitVec 5) (r : Request) :
    (dealRequest pins r s).state.CountersFit := by
  cases lowers : r.lowers with
  | false => exact (dealRequest_counts lowers pins s).countersFit fits
  | true =>
    unfold Request.lowers at lowers
    split at lowers
    · simp only [dealRequest, dealRestart]
      split
      · exact s.resetPart_countersFit pins
      · exact fits
    · rename_i scope
      simp only [dealRequest, dealCounters]
      split
      · exact State.clearScope_countersFit fits scope
      · exact fits
    · cases lowers

theorem takeRequest_countersFit {s : State} (fits : s.CountersFit) (dt : Nat) (tag : Byte) (pins : BitVec 5) (r : Request) :
    (takeRequest dt tag r (dealRequest pins r) s).CountersFit := by
  unfold takeRequest
  dsimp only
  split
  · exact (State.offerReply_counts _ _).countersFit
      (dealRequest_countersFit (s := (s.elapse dt).dropRequestInHand) fits pins r)
  · exact fits

theorem takeRequest_counts {r : Request} (keeps : r.lowers = false) (dt : Nat) (tag : Byte) (pins : BitVec 5) (s : State) :
    s.Counts (takeRequest dt tag r (dealRequest pins r) s) := by
  unfold takeRequest
  dsimp only
  split
  · exact (dealRequest_counts keeps pins (s.elapse dt).dropRequestInHand).trans (State.offerReply_counts _ _)
  · exact .ofReport rfl

/-! ## Every command -/

/-- A command that brings a request which can lower a counter is one of those that R134 excepts. -/
theorem Request.lowers_mayLower {i : Instr} {tag : Byte} {r : Request} (brings : i.request = some (tag, r))
    (lowers : r.lowers = true) : i.MayLowerCounters := by
  cases i with
  | unknownRequest dt t payload =>
    cases brings
    refine .inr (.inr (.inr ⟨dt, tag, payload.operand, payload.pins, rfl, ?_⟩))
    unfold Request.lowers at lowers
    split at lowers
    · rename_i spelt
      exact .inl spelt
    · rename_i scope spelt
      exact .inr ⟨scope, spelt⟩
    · cases lowers
  | countersClear dt t scope => exact .inr (.inr (.inl ⟨dt, t, scope, rfl⟩))
  | restart dt tag => exact .inr (.inl ⟨dt, tag.operand, tag.pins, rfl⟩)
  | _ => cases brings <;> cases lowers

/-- A command that brings no request, a reset apart, leaves the counters or raises them. -/
theorem exec_counts_of_no_request {i : Instr} (brings : i.request = none) (noReset : ∀ dt pins, i ≠ .reset dt pins)
    (s : State) : ∃ t, exec i s = .next t ∧ s.Counts t := by
  cases i with
  | reset dt pins => exact absurd rfl (noReset dt pins)
  | forwardEdge dt lines order => exact ⟨_, rfl, State.forwardEdge_counts lines order (s.elapse dt)⟩
  | reverseEdge dt => exact ⟨_, rfl, State.reverseEdge_counts (s.elapse dt)⟩
  | indexMark dt lines o1 o0 => exact ⟨_, rfl, State.indexMark_counts lines o1 o0 (s.elapse dt)⟩
  | trackerHaltRequest dt cause => exact ⟨_, rfl, State.takeHalt_counts _ (s.elapse dt)⟩
  | ringInFrame dt bytes => exact ⟨_, rfl, State.frameIn_counts bytes (s.elapse dt)⟩
  | dipTimerExpiry dt =>
    simp only [exec, execDipTimerExpiry]
    split
    · exact ⟨_, rfl, State.enterLow_counts (s.elapse dt)⟩
    · exact ⟨_, rfl, .ofReport rfl⟩
  | storeOperationTimerExpiry dt =>
    simp only [exec, execStoreOperationTimerExpiry]
    split
    · exact ⟨_, rfl, .same rfl rfl⟩
    · exact ⟨_, rfl, .ofReport rfl⟩
  | infeedTicket dt flags payload =>
    simp only [exec, execInfeedTicket]
    split
    · exact ⟨_, rfl, State.takeTicket_counts flags payload (s.elapse dt).dropTicketInHand⟩
    · exact ⟨_, rfl, .ofReport rfl⟩
  | transmitComplete dt =>
    simp only [exec, execTransmitComplete]
    split
    · exact ⟨_, rfl, State.endSending_counts (s.elapse dt)⟩
    · exact ⟨_, rfl, .ofReport rfl⟩
  | pitchTimerSaturation | canPresentEdge | manifoldSample => exact ⟨_, rfl, .ofReport rfl⟩
  | bellPressureSample | crimpForceSample | overpressureTrip | sealLevelReport | commandTimerExpiry | sealCheckTimerExpiry
    | dwellTimerExpiry | ventPulseTimerExpiry | resetVentTimerExpiry | lowEvent | headHalt =>
    exact ⟨_, rfl, .ofReport rfl⟩
  | _ => cases brings

end Sys2Proof.Machine

namespace Sys2Proof.Proofs
open Sys2Proof.Machine

/-- Settles O59: a counter moves by `bump` alone, but for the reset of the part and the clear of a scope, which set it to 0. -/
theorem countersFallOnlyByClearOrReset : Obligations.CountersFallOnlyByClearOrReset := by
  unfold Obligations.CountersFallOnlyByClearOrReset
  intro i s t fits taken
  rcases brings : i.request with _ | ⟨tag, r⟩
  · by_cases isReset : ∃ dt pins, i = .reset dt pins
    · obtain ⟨dt, pins, rfl⟩ := isReset
      cases taken
      exact ⟨State.resetPart_countersFit pins _, fun keeps => absurd (.inl ⟨dt, pins, rfl⟩) keeps⟩
    · obtain ⟨u, run, counts⟩ := exec_counts_of_no_request brings (fun dt pins same => isReset ⟨dt, pins, same⟩) s
      cases run.symm.trans taken
      exact ⟨counts.countersFit fits, fun _ => counts.countersRise⟩
  · cases (exec_request brings s).symm.trans taken
    refine ⟨takeRequest_countersFit fits _ tag _ r, fun keeps => ?_⟩
    have kept : r.lowers = false := Bool.eq_false_iff.2 fun lowers => keeps (Request.lowers_mayLower brings lowers)
    exact (takeRequest_counts kept _ tag _ s).countersRise

end Sys2Proof.Proofs
end

section
/-! SUPPORT. The answer to a COUNTERS request and the attention summary (R136, R141, R167). -/

namespace Sys2Proof.Machine

/-- The defined scopes are the 24 heads and the three part-wide ones (R136, R167). -/
theorem State.scopeBytes_eq_none_iff (n : Nat) (s : State) :
    s.scopeBytes n = none ↔ ¬ (n ≤ 23 ∨ n = 252 ∨ n = 253 ∨ n = 254) := by
  cases ScopeCase.of n with
  | head h =>
    have small := h.isLt
    simp only [State.scopeBytes_head, reduceCtorEq, false_iff, not_not]
    omega
  | kinds => simp [State.scopeBytes_kinds]
  | lowRejects => simp [State.scopeBytes_lowRejects]
  | highRejects => simp [State.scopeBytes_highRejects]
  | undefined above other =>
    simp only [s.scopeBytes_undefined above other, true_iff]
    simp only [List.mem_cons, List.not_mem_nil, or_false] at other
    omega

/-- A defined scope is answered with its counters, which are cleared if asked (R136, R167). -/
theorem dealCounters_reads {scope : Nat} {s : State} {bytes : List Byte} (reports : s.scopeBytes scope = some bytes)
    (clear : Bool) : dealCounters scope clear s = ⟨if clear then s.clearScope scope else s, .done, bytes⟩ := by
  simp only [dealCounters, reports]

theorem dealCounters_refused {scope : Nat} {s : State} (undefined : s.scopeBytes scope = none) (clear : Bool) :
    dealCounters scope clear s = unchanged s .badField := by
  simp only [dealCounters, undefined]

/-- The summary is set exactly when some flag is both set and enabled in the mask (R141). -/
theorem State.summary_iff (s : State) :
    s.summary = true ↔ ∃ k : Fin 11, s.report.flags.getLsbD k.val = true ∧ s.report.mask.getLsbD k.val = true := by
  have none : s.report.flags &&& s.report.mask = 0
      ↔ ∀ k : Fin 11, ¬ (s.report.flags.getLsbD k.val = true ∧ s.report.mask.getLsbD k.val = true) := by
    constructor
    · intro zero k
      rw [← Bool.and_eq_true, ← BitVec.getLsbD_and, zero]
      simp
    · intro apart
      refine BitVec.eq_of_getLsbD_eq fun i inside => ?_
      simpa [← Bool.and_eq_true] using apart ⟨i, inside⟩
  simp only [State.summary, bne_iff_ne, ne_eq, none, not_forall, not_not]

end Sys2Proof.Machine

namespace Sys2Proof.Proofs
open Sys2Proof.Machine

/-- Settles O46: a clear by the scope it names, ATTENTION by its definition, and the summary flag by flag. -/
theorem countersClearAndAttention : Obligations.CountersClearAndAttention := by
  unfold Obligations.CountersClearAndAttention
  intro dt tag n clear mask s u
  refine ⟨fun bytes admits reports => ?_, fun admits undefined => ?_, s.scopeBytes_eq_none_iff n, s.clearScope_heads n,
    s.clearScope_kinds n, s.clearScope_rejects n, ?_, fun admits => ?_, s.summary_iff⟩
  · exact exec_answers rfl rfl admits (dealCounters_reads (s := u) reports true)
  · exact exec_answers rfl rfl admits (dealCounters_refused (s := u) undefined true)
  · obtain ⟨heads, part, frame⟩ := s.clearScope_frame n
    rw [frame]
  · refine exec_answers rfl rfl admits ?_
    cases mask <;> rfl

end Sys2Proof.Proofs
end

section
/-! SUPPORT. The requests that only read, each with the bytes it is answered (R161, R163, R164, R167, R168). -/

namespace Sys2Proof.Machine

/-- A field of one byte (R161). -/
theorem bytesOf_one (n : Nat) : bytesOf 1 n = [BitVec.ofNat 8 n] := rfl

/-- A weighted bit is its weight or 0. -/
theorem mul_bit (n : Nat) (b : Bool) : n * bit b = if b then n else 0 := by
  cases b <;> simp [bit]

/-- The entries of a table, one by one, in the order of their places. -/
theorem toList_flatMap {α : Type} {n : Nat} (v : Vector α n) (f : α → List Byte) :
    v.toList.flatMap f = (List.finRange n).flatMap fun k => f v[k] := by
  have places : v.toList = (List.finRange n).map fun k => v[k] := List.ext_getElem (by simp) fun i _ _ => by simp
  rw [places, List.flatMap_map]

/-- A request that only reads is answered with what it read, and the part is as it was when the request was taken. -/
theorem exec_reads {i : Instr} {kind tag : Byte} {r : Request} {s : State} {result : Result} {data : List Byte}
    (brings : i.request = some (tag, r)) (echoed : requestKind r = kind) (admits : s.Admits tag r)
    (read : dealRequest i.pinsRead r (s.taking i.elapsed) = unchanged (s.taking i.elapsed) result data) :
    exec i s = .next ((s.taking i.elapsed).answering kind tag result data) :=
  exec_answers brings echoed admits read

/-! ## STATUS -/

/-- The direction bit of the P-valid byte (R161). -/
theorem reverse_bit (d : Direction) :
    2 * bit (decide (d = .reverse)) = match d with | .forward => 0 | .reverse => 2 := by
  cases d <;> rfl

/-- The running product, 255 for none (R161). -/
theorem running_byte (running : Option SlotNo) :
    (running.map (·.val)).getD 255 = match running with | some p => p.val | none => 255 := by
  cases running <;> rfl

/-! ## HEAD-READ -/

theorem dealHeadRead_head (h : HeadNo) (s : State) :
    dealHeadRead h.val s = unchanged s .done
      ((s.head h).entry.bytes ++ bytesOf 1 (s.head h).faults ++ storeEntryBytes s.store.entries[h]) := by
  simp only [dealHeadRead, headNo_val]

theorem dealHeadRead_refused {head : Nat} (above : 23 < head) (s : State) :
    dealHeadRead head s = unchanged s .badField := by
  simp only [dealHeadRead, headNo_none above]

/-! ## COUNTERS -/

/-- The rejects per reason, in code order (section 8.1, R167). -/
theorem PartCounters.rejects_toList (p : PartCounters) :
    p.rejects.toList = ([.noRecipe, .untracked, .headDisabled, .notRunning, .noSeal, .overpressure, .windowCut, .underdose,
      .supplyLow, .settleRange, .crimpDepth, .crimpDiameter, .crimpForce, .crimpShort, .ventIncomplete,
      .aborted] : List Reason).map fun r => p.rejects[r.index] :=
  List.ext_getElem (by simp) fun i small _ => by
    simp at small
    interval_cases i <;> rfl

/-! ## CONFIG-READ -/

theorem dealConfigRead_reads {group : Nat} {s : State} {bytes : List Byte} (reads : s.configBytes group = some bytes) :
    dealConfigRead group s = unchanged s .done (bytesOf 1 group ++ bytes) := by
  simp only [dealConfigRead, reads]

theorem dealConfigRead_refused {group : Nat} (undefined : group = 0 ∨ 7 < group) (s : State) :
    dealConfigRead group s = unchanged s .badField := by
  have none : s.configBytes group = none := by
    rcases undefined with rfl | above
    · rfl
    · obtain ⟨k, rfl⟩ : ∃ k, group = k + 8 := ⟨group - 8, by omega⟩
      rfl
  simp only [dealConfigRead, none]

end Sys2Proof.Machine

namespace Sys2Proof.Proofs
open Sys2Proof.Machine

/-- Settles O45: none of the four dealings changes the part, and each reads its bytes where the layout names them. -/
theorem readingRequestsChangeNothing : Obligations.ReadingRequestsChangeNothing := by
  unfold Obligations.ReadingRequestsChangeNothing
  intro dt tag n s u byte ifSet entry record part
  have recordBytes : ∀ sl : Slot, sl.record = record sl := fun sl => by
    simp only [Slot.record, mul_bit]
    rfl
  refine ⟨fun admits => ?_, fun admits => ⟨?_, fun above => ?_⟩, fun admits => ?_, fun admits => ?_⟩
  · refine (exec_reads (i := .status dt tag) rfl rfl admits rfl).trans ?_
    refine congrArg (fun d => Host.Outcome.next (u.answering 1 tag .done d)) ?_
    simp only [State.statusData, toList_flatMap, recordBytes, reverse_bit, running_byte]
    rfl
  · rintro h rfl
    refine (exec_reads (i := .headRead dt tag h.val) rfl rfl admits (dealHeadRead_head h u)).trans ?_
    refine congrArg (fun d => Host.Outcome.next (u.answering 9 tag .done d)) ?_
    refine congrArg (entry (s.head h).entry ++ byte (s.head h).faults ++ ·) ?_
    change storeEntryBytes s.store.entries[h] = _
    cases s.store.entries[h] with
    | none => rfl
    | some e => rfl
  · exact exec_reads rfl rfl admits (dealHeadRead_refused above u)
  · intro reads rejects
    have counts : ∀ {scope bytes}, n = scope → u.scopeBytes scope = some bytes →
        exec (.counters dt tag n) s = .next (u.answering 14 tag .done bytes) := by
      rintro _ bytes rfl defined
      exact exec_reads rfl rfl admits (dealCounters_reads defined false)
    refine ⟨fun h names => counts names (u.scopeBytes_head h), fun names => counts names u.scopeBytes_kinds,
      fun names => counts names (u.scopeBytes_lowRejects.trans ?_),
      fun names => counts names (u.scopeBytes_highRejects.trans ?_), fun above other => ?_⟩
    · rw [PartCounters.rejects_toList]
      rfl
    · rw [PartCounters.rejects_toList]
      rfl
    · exact exec_reads rfl rfl admits (dealCounters_refused (u.scopeBytes_undefined above other) false)
  · intro reads
    have values : ∀ {group bytes}, n = group → u.configBytes group = some bytes → reads bytes := by
      rintro _ bytes rfl defined
      exact exec_reads rfl rfl admits (dealConfigRead_reads defined)
    exact ⟨fun names => values names rfl, fun names => values names rfl, fun names => values names rfl,
      fun names => values names rfl, fun names => values names rfl,
      fun names => values names (congrArg some (toList_flatMap s.valves _)),
      fun names => values names (congrArg some (toList_flatMap s.supply.flow _)),
      fun undefined => exec_reads rfl rfl admits (dealConfigRead_refused undefined u)⟩

end Sys2Proof.Proofs
end

section
/-! SUPPORT. Bytes and fields: what is read back of the bytes that a field is sent as, and of the pieces a payload is put
together from (R154, R161). -/

namespace Sys2Proof.Machine

/-! ## Fields of a list of bytes -/

theorem byteAt_eq_fieldAt (bs : List Byte) (off : Nat) : byteAt bs off = fieldAt bs off 1 := by
  simp [fieldAt]

/-- Two lists with the same bytes at a field's places give it the same value. -/
theorem fieldAt_congr {bs cs : List Byte} {off off' k : Nat}
    (same : ∀ i < k, byteAt bs (off + i) = byteAt cs (off' + i)) : fieldAt bs off k = fieldAt cs off' k := by
  induction k with
  | zero => rfl
  | succ k ih =>
    rw [fieldAt, fieldAt, same k (Nat.lt_succ_self k), ih fun i below => same i (Nat.lt_succ_of_lt below)]

/-- A field that lies in the first piece. -/
theorem fieldAt_append_left {as : List Byte} {off k : Nat} (inside : off + k ≤ as.length) (bs : List Byte) :
    fieldAt (as ++ bs) off k = fieldAt as off k :=
  fieldAt_congr fun i below => by
    rw [byteAt, byteAt, List.getD_append _ _ _ _ (by omega)]

/-- A field that begins past the first piece. -/
theorem fieldAt_append_right {as : List Byte} {off : Nat} (past : as.length ≤ off) (bs : List Byte) (k : Nat) :
    fieldAt (as ++ bs) off k = fieldAt bs (off - as.length) k :=
  fieldAt_congr fun i _ => by
    rw [byteAt, byteAt, List.getD_append_right _ _ _ _ (by omega), Nat.sub_add_comm past]

/-- A field of `k` bytes is below 256 to the `k`. -/
theorem fieldAt_lt (bs : List Byte) (off k : Nat) : fieldAt bs off k < 256 ^ k := by
  induction k with
  | zero => exact Nat.one_pos
  | succ k ih =>
    have small : byteAt bs (off + k) < 256 := (bs.getD (off + k) 0).isLt
    rw [fieldAt, pow_succ]
    omega

/-- The first byte of a field is its most significant (R154). -/
theorem fieldAt_cons (b : Byte) (bs : List Byte) (k : Nat) :
    fieldAt (b :: bs) 0 (k + 1) = b.toNat * 256 ^ k + fieldAt bs 0 k := by
  induction k with
  | zero => simp [fieldAt, byteAt]
  | succ k ih =>
    have last : byteAt (b :: bs) (0 + (k + 1)) = byteAt bs (0 + k) := by simp [byteAt]
    rw [fieldAt, ih, last, fieldAt, pow_succ]
    ring

/-! ## Fields sent and read back -/

/-- A field read back of its bytes is the value that was sent, brought into its `k` bytes. -/
theorem fieldAt_bytesOf (k n : Nat) : fieldAt (bytesOf k n) 0 k = n % 256 ^ k := by
  induction k generalizing n with
  | zero => simp [fieldAt, Nat.mod_one]
  | succ k ih =>
    have front : fieldAt (bytesOf (k + 1) n) 0 k = n / 256 % 256 ^ k := by
      rw [bytesOf, fieldAt_append_left (by simp), ih]
    have last : byteAt (bytesOf (k + 1) n) (0 + k) = n % 256 := by
      rw [bytesOf, byteAt, List.getD_append_right _ _ _ _ (by simp)]
      simp
    rw [fieldAt, front, last, pow_succ', Nat.mod_mul]
    ring

/-- The field at the front of what is sent. -/
theorem fieldAt_front (k n : Nat) (rest : List Byte) : fieldAt (bytesOf k n ++ rest) 0 k = n % 256 ^ k := by
  rw [fieldAt_append_left (by simp), fieldAt_bytesOf]

/-- A field past the front one. -/
theorem fieldAt_past {k off : Nat} (past : k ≤ off) (n m : Nat) (rest : List Byte) :
    fieldAt (bytesOf k n ++ rest) off m = fieldAt rest (off - k) m := by
  rw [fieldAt_append_right (by simpa using past), bytesOf_length]

/-- A signed field by its unsigned reading: from half its range up it is below 0 (R161). -/
theorem signedAt_eq (bs : List Byte) (off k : Nat) :
    signedAt bs off (k + 1) =
      if fieldAt bs off (k + 1) < 2 ^ (8 * k + 7) then (fieldAt bs off (k + 1) : Int)
      else (fieldAt bs off (k + 1) : Int) - 2 ^ (8 * k + 8) := by
  have small : fieldAt bs off (k + 1) < 2 ^ (8 * (k + 1)) := by
    rw [pow_mul]
    exact fieldAt_lt bs off (k + 1)
  have half : 2 ^ (8 * (k + 1)) = 2 * 2 ^ (8 * k + 7) := by ring
  rw [signedAt, BitVec.toInt_eq_toNat_cond, BitVec.toNat_ofNat, Nat.mod_eq_of_lt small, half]
  have cond : 2 * fieldAt bs off (k + 1) < 2 * 2 ^ (8 * k + 7) ↔ fieldAt bs off (k + 1) < 2 ^ (8 * k + 7) := by omega
  simp only [cond]
  split
  · rfl
  · push_cast
    ring

/-- A value that fits its signed field is read back of its bytes (R161). -/
theorem signed_of_bits {k : Nat} {i : Int} (low : -(2 ^ (8 * k + 7)) ≤ i) (high : i < 2 ^ (8 * k + 7)) :
    (BitVec.ofNat (8 * (k + 1)) ((BitVec.ofInt (8 * (k + 1)) i).toNat % 256 ^ (k + 1))).toInt = i := by
  have width : 256 ^ (k + 1) = 2 ^ (8 * (k + 1)) := (pow_mul 2 8 (k + 1)).symm
  rw [width, Nat.mod_eq_of_lt (BitVec.isLt _), BitVec.ofNat_toNat, BitVec.setWidth_eq, BitVec.toInt_ofInt]
  have half : ((2 ^ (8 * (k + 1)) : Nat) : Int) = 2 * 2 ^ (8 * k + 7) := by push_cast; ring
  exact Int.bmod_eq_of_le (by omega) (by omega)

theorem signedAt_signedBytes {k : Nat} {i : Int} (low : -(2 ^ (8 * k + 7)) ≤ i) (high : i < 2 ^ (8 * k + 7)) :
    signedAt (signedBytes (k + 1) i) 0 (k + 1) = i := by
  rw [signedAt, signedBytes, fieldAt_bytesOf]
  exact signed_of_bits low high

end Sys2Proof.Machine
end

section
/-! SUPPORT. The frames that the part originates: their soundness, and the fields of a discharge ticket (R154, R155,
R161). -/

namespace Sys2Proof.Machine

/-! ## The cyclic check -/

theorem crc_append (bs : List Byte) (b : Byte) : crc (bs ++ [b]) = crcByte (crc bs) b := by
  simp [crc]

/-! ## Frames -/

section Frame
variable (kind address third : Byte) {payload : List Byte}

theorem frameOf_length : (frameOf kind address third payload).length = payload.length + 6 := by
  simp [frameOf]

variable (short : payload.length ≤ 58)
include short

/-- Byte 3 of the header is the length of the payload (R161). -/
theorem byteAt_frameOf_three : byteAt (frameOf kind address third payload) 3 = payload.length := by
  have length : byteAt (frameOf kind address third payload) 3 = payload.length % 256 := by
    simp [frameOf, byteAt]
  omega

/-- A receiver finds the payload by the length in the header (R155). -/
theorem framePayload_frameOf : framePayload (frameOf kind address third payload) = payload := by
  rw [framePayload, byteAt_frameOf_three kind address third short]
  simp [frameOf]

/-- A receiver finds the length and the CRC right (R155). -/
theorem soundFrame_frameOf : soundFrame (frameOf kind address third payload) = true := by
  have length := frameOf_length kind address third (payload := payload)
  have three := byteAt_frameOf_three kind address third short
  let body := [kind, address, third, BitVec.ofNat 8 payload.length] ++ payload
  have parts : frameOf kind address third payload = body ++ bytesOf 2 (crc body).toNat := rfl
  have bodyLength : body.length = payload.length + 4 := by simp [body]
  have check : fieldAt (frameOf kind address third payload) (payload.length + 4) 2 = (crc body).toNat := by
    rw [parts, fieldAt_append_right bodyLength.le, bodyLength, Nat.sub_self, fieldAt_bytesOf]
    exact Nat.mod_eq_of_lt (crc body).isLt
  have front : (frameOf kind address third payload).take (payload.length + 4) = body := by
    rw [parts, ← bodyLength, List.take_left]
  simp only [soundFrame, length, three, Bool.and_eq_true, decide_eq_true_eq]
  refine ⟨⟨⟨⟨by omega, by omega⟩, short⟩, trivial⟩, ?_⟩
  rw [show payload.length + 6 - 2 = payload.length + 4 by omega, check, front]

end Frame

/-! ## Layouts -/

/-- The bytes of fields laid one after the other, each given by its width and its value (R161). -/
def layoutBytes (fields : List (Nat × Nat)) : List Byte := fields.flatMap fun f => bytesOf f.1 f.2

/-- Where the field at a place of a layout begins. -/
def layoutOffset (fields : List (Nat × Nat)) (i : Nat) : Nat := ((fields.take i).map Prod.fst).sum

/-- Each field of a layout is read back where it begins. -/
theorem fieldAt_layoutBytes {fields : List (Nat × Nat)} {i k n : Nat} (field : fields[i]? = some (k, n))
    (rest : List Byte) : fieldAt (layoutBytes fields ++ rest) (layoutOffset fields i) k = n % 256 ^ k := by
  induction fields generalizing i with
  | nil => cases field
  | cons f fields ih =>
    have first : layoutBytes (f :: fields) ++ rest = bytesOf f.1 f.2 ++ (layoutBytes fields ++ rest) := by
      simp [layoutBytes]
    rw [first]
    cases i with
    | zero =>
      obtain rfl : f = (k, n) := by simpa using field
      exact fieldAt_front k n _
    | succ i =>
      have begins : layoutOffset (f :: fields) (i + 1) = f.1 + layoutOffset fields i := by simp [layoutOffset]
      rw [begins, fieldAt_past (Nat.le_add_right _ _), Nat.add_sub_cancel_left]
      exact ih (by simpa using field)

/-- A field of a payload given by its layout stands 4 bytes further on in the frame (R161). -/
theorem fieldAt_frameOf_layout (kind address third : Byte) {fields : List (Nat × Nat)} {i k n off : Nat}
    (field : fields[i]? = some (k, n)) (place : 4 + layoutOffset fields i = off) :
    fieldAt (frameOf kind address third (layoutBytes fields)) off k = n % 256 ^ k := by
  have parts : ∃ check, frameOf kind address third (layoutBytes fields)
      = [kind, address, third, BitVec.ofNat 8 (layoutBytes fields).length] ++ (layoutBytes fields ++ check) :=
    ⟨_, List.append_assoc _ _ _⟩
  obtain ⟨check, frame⟩ := parts
  rw [← place, frame, fieldAt_append_right (by simp)]
  simpa using fieldAt_layoutBytes field check

/-! ## The reasons -/

/-- Bit n − 1 of the reasons is set exactly for the reasons listed, n their code (R161). -/
theorem reasonBits_testBit (r : Reason) (rs : List Reason) :
    (reasonBits rs).testBit (r.code - 1) = decide (r ∈ rs) := by
  induction rs with
  | nil => simp [reasonBits]
  | cons x rs ih =>
    have bits : reasonBits (x :: rs) = 2 ^ (x.code - 1) ||| reasonBits rs := rfl
    have own : x.code - 1 = r.code - 1 ↔ r = x := by
      constructor
      · intro same
        by_contra other
        exact Reason.index_ne other same.symm
      · rintro rfl
        rfl
    rw [bits, Nat.testBit_or, ih, Nat.testBit_two_pow]
    simp [own, Bool.decide_or]

/-! ## The reply -/

/-- The payload of a reply is its kind, its result, the summary and the data (R161). -/
theorem Reply.payload_eq (x : Reply) :
    x.payload = [x.kind, x.result.code, if x.summary then 1 else 0] ++ x.data := by
  have summary : bytesOf 1 (bit x.summary) = [if x.summary then 1 else 0] := by
    cases x.summary <;> rfl
  rw [Reply.payload, summary]
  rfl

theorem Reply.payload_length (x : Reply) : x.payload.length = x.data.length + 3 := by
  simp [Reply.payload_eq]

/-! ## The discharge ticket -/

theorem DischargeTicket.payload_length (t : DischargeTicket) : t.payload.length = 38 := by
  unfold DischargeTicket.payload
  simp only [List.length_append, bytesOf_length, signedBytes_length, List.length_singleton]

theorem bit_le (b : Bool) : bit b ≤ 1 := by cases b <;> decide

theorem DischargeTicket.presence_lt (t : DischargeTicket) : t.presence < 256 := by
  have := bit_le t.version.isSome
  have := bit_le t.fill.isSome
  have := bit_le t.temp.isSome
  have := bit_le t.flags.isSome
  have := bit_le t.dose.isSome
  have := bit_le t.gassing.isSome
  have := bit_le t.settle.isSome
  have := bit_le t.crimp.isSome
  unfold DischargeTicket.presence
  omega

theorem InfoFlags.code_lt (f : InfoFlags) : f.code < 16 := by
  have := bit_le f.doseClamped
  have := bit_le f.doseLimited
  have := bit_le f.windowShort
  have := bit_le f.supplyDip
  unfold InfoFlags.code
  omega

/-- A gassing field of a ticket as it is sent: 0 where the ticket has no gassing (R161). -/
def DischargeTicket.gasField (t : DischargeTicket) (get : GasFigures → Nat) : Nat :=
  match t.gassing with
  | some g => get g
  | none => 0

/-- A crimp field of a ticket as it is sent: 0 where the ticket has no crimp (R161). -/
def DischargeTicket.crimpField (t : DischargeTicket) (get : CrimpResult → Nat) : Nat :=
  match t.crimp with
  | some x => get x
  | none => 0

theorem DischargeTicket.gasField_eq (t : DischargeTicket) (get : GasFigures → Nat) :
    (t.gassing.map get).getD 0 = t.gasField get := by
  unfold DischargeTicket.gasField
  cases t.gassing <;> rfl

theorem DischargeTicket.crimpField_eq (t : DischargeTicket) (get : CrimpResult → Nat) :
    (t.crimp.map get).getD 0 = t.crimpField get := by
  unfold DischargeTicket.crimpField
  cases t.crimp <;> rfl

theorem DischargeTicket.gasField_lt (t : DischargeTicket) {get : GasFigures → Nat} (each : ∀ g, get g < 256) :
    t.gasField get < 256 := by
  unfold DischargeTicket.gasField
  split
  · exact each _
  · decide

theorem DischargeTicket.crimpField_lt (t : DischargeTicket) {get : CrimpResult → Nat} (each : ∀ x, get x < 256) :
    t.crimpField get < 256 := by
  unfold DischargeTicket.crimpField
  split
  · exact each _
  · decide

/-- The fields of a discharge ticket in the order of R161's table, each with its width and what it is sent as. -/
def DischargeTicket.layout (t : DischargeTicket) : List (Nat × Nat) :=
  [(3, t.serial), (1, t.product.val), (1, t.head.val), (1, t.version.getD 0), (2, t.fill.getD 0),
    (2, (BitVec.ofInt 16 (t.temp.getD (-32768))).toNat), (1, t.presence), (1, t.verdict.code.toNat),
    (2, reasonBits t.reasons), (1, (t.flags.getD InfoFlags.clear).code), (2, t.dose.getD 0), (3, t.gasField (·.command)),
    (3, t.gasField (·.elapsed)), (1, t.gasField (·.cause.code.toNat)), (3, t.gasField (·.delivered)),
    (2, t.gasField (·.peak)), (2, t.settle.getD 0), (2, t.crimpField (·.depth)), (2, t.crimpField (·.diameter)),
    (1, t.crimpField (bit ·.qualified)), (2, t.gasField (·.advisory))]

/-- Where the fields of a discharge ticket begin in its frame: R161's offsets, past the 4 bytes of the header. -/
def DischargeTicket.offsets : List Nat :=
  [4, 7, 8, 9, 10, 12, 14, 15, 16, 18, 19, 21, 24, 27, 28, 31, 33, 35, 37, 39, 40]

theorem DischargeTicket.offsets_eq (t : DischargeTicket) :
    DischargeTicket.offsets = (List.range 21).map fun i => 4 + layoutOffset t.layout i := by
  simp [DischargeTicket.offsets, layoutOffset, DischargeTicket.layout, List.range_succ]

/-- A byte is a field of one byte. -/
theorem bytesOf_one_toNat (b : Byte) : bytesOf 1 b.toNat = [b] := by
  rw [bytesOf_one, BitVec.ofNat_toNat, BitVec.setWidth_eq]

theorem DischargeTicket.payload_eq (t : DischargeTicket) : t.payload = layoutBytes t.layout := by
  have cause : [(t.gassing.map (·.cause.code)).getD 0] = bytesOf 1 (t.gasField (·.cause.code.toNat)) := by
    rw [← bytesOf_one_toNat]
    unfold DischargeTicket.gasField
    cases t.gassing <;> rfl
  unfold DischargeTicket.payload
  simp only [layoutBytes, DischargeTicket.layout, cause, bytesOf_one_toNat, DischargeTicket.gasField_eq,
    DischargeTicket.crimpField_eq, signedBytes, List.flatMap_cons, List.flatMap_nil, List.append_nil, List.append_assoc]

section Fields
variable (t : DischargeTicket) (own : Nat) {i k n off : Nat} (place : DischargeTicket.offsets[i]? = some off)
include place

/-- A field of a ticket is read back of its frame, brought into its bytes (R161). -/
theorem DischargeTicket.fieldAt_bytes (field : t.layout[i]? = some (k, n)) :
    fieldAt (OriginFrame.bytes own (.ticket t)) off k = n % 256 ^ k := by
  have frame : OriginFrame.bytes own (.ticket t) = frameOf 2 (BitVec.ofNat 8 own)
      (BitVec.ofNat 8 (bit (t.suspect.getD false) + 2 * bit t.summary)) (layoutBytes t.layout) := by
    rw [← t.payload_eq]
    rfl
  rw [t.offsets_eq, List.getElem?_map] at place
  obtain ⟨j, found, rfl⟩ := Option.map_eq_some_iff.1 place
  obtain ⟨-, rfl⟩ := List.getElem?_eq_some_iff.1 found
  rw [frame]
  exact fieldAt_frameOf_layout _ _ _ field (by simp)

/-- A field whose value fits it is read back as that value. -/
theorem DischargeTicket.fieldAt_bytes_of_lt (field : t.layout[i]? = some (k, n)) (small : n < 256 ^ k) :
    fieldAt (OriginFrame.bytes own (.ticket t)) off k = n :=
  (t.fieldAt_bytes own place field).trans (Nat.mod_eq_of_lt small)

theorem DischargeTicket.byteAt_bytes_of_lt (field : t.layout[i]? = some (1, n)) (small : n < 256) :
    byteAt (OriginFrame.bytes own (.ticket t)) off = n :=
  (byteAt_eq_fieldAt _ _).trans (t.fieldAt_bytes_of_lt own place field small)

end Fields

/-- The temperature is read back of its frame, when it fits its signed field (R161). -/
theorem DischargeTicket.temp_bytes (t : DischargeTicket) (own : Nat) (low : -32768 ≤ t.temp.getD (-32768))
    (high : t.temp.getD (-32768) ≤ 32767) :
    signedAt (OriginFrame.bytes own (.ticket t)) 12 2 = t.temp.getD (-32768) := by
  rw [signedAt, t.fieldAt_bytes own (i := 5) rfl rfl]
  exact signed_of_bits (k := 1) low (by omega)

/-- The bit of each reason in the reasons of a ticket's frame (R161). -/
theorem DischargeTicket.reasons_bytes (t : DischargeTicket) (own : Nat) (r : Reason) :
    (fieldAt (OriginFrame.bytes own (.ticket t)) 16 2).testBit (r.code - 1) = decide (r ∈ t.reasons) := by
  have inside : r.code - 1 < 16 := r.index.isLt
  have field : fieldAt (OriginFrame.bytes own (.ticket t)) 16 2 = reasonBits t.reasons % 2 ^ 16 :=
    t.fieldAt_bytes own (i := 8) rfl rfl
  rw [field, Nat.testBit_mod_two_pow, reasonBits_testBit, decide_eq_true inside, Bool.true_and]

end Sys2Proof.Machine

namespace Sys2Proof.Proofs
open Sys2Proof.Machine

/-- Settles O43: a frame is its header, its payload and its CRC, and a ticket's payload is its fields laid one after the
other, so each is read back where the fields before it end. -/
theorem originatedFramesAreSound : Obligations.OriginatedFramesAreSound := by
  unfold Obligations.OriginatedFramesAreSound
  refine ⟨fun own f address fits => ?_, fun k n small => ⟨bytesOf_length k n, ?_⟩,
    fun k i low high => ⟨signedBytes_length _ _, signedAt_signedBytes low high⟩, fun b rest => fieldAt_cons b rest _,
    signedAt_eq, rfl, crc_append⟩
  · intro bs ifSet
    have source : ∀ kind third payload, byteAt (frameOf kind (BitVec.ofNat 8 own) third payload) 1 = own := fun _ _ _ =>
      Nat.mod_eq_of_lt (by omega : own < 2 ^ 8)
    cases f with
    | reply x =>
      have short : x.payload.length ≤ 58 := x.payload_length ▸ Nat.add_le_add_right (m := 55) fits 3
      exact ⟨soundFrame_frameOf _ _ _ short, source _ _ _, rfl, rfl,
        (framePayload_frameOf _ _ _ short).trans x.payload_eq⟩
    | ticket t =>
      have short : t.payload.length ≤ 58 := t.payload_length.trans_le (by decide)
      refine ⟨soundFrame_frameOf _ _ _ short, source _ _ _, ?_⟩
      dsimp -zeta only
      intro holds gassing crimp
      have held : ∀ {i k n off}, DischargeTicket.offsets[i]? = some (4 + off) → t.layout[i]? = some (k, n) →
          holds off k n :=
        fun place field => t.fieldAt_bytes_of_lt own place field
      refine ⟨rfl, (frameOf_length _ _ _).trans (congrArg (· + 6) t.payload_length), t.payload_length,
        framePayload_frameOf _ _ _ short, ?_, held (i := 0) rfl rfl,
        t.byteAt_bytes_of_lt own (i := 1) rfl rfl (t.product.isLt.trans (by decide)),
        t.byteAt_bytes_of_lt own (i := 2) rfl rfl (t.head.isLt.trans (by decide)), held (i := 3) rfl rfl,
        held (i := 4) rfl rfl, ?_, ?_, ?_, ?_, ?_, held (i := 10) rfl rfl, held (i := 11) rfl rfl,
        held (i := 12) rfl rfl, ?_, held (i := 14) rfl rfl, held (i := 15) rfl rfl, held (i := 16) rfl rfl,
        held (i := 17) rfl rfl, held (i := 18) rfl rfl, ?_, held (i := 20) rfl rfl⟩
      · have suspect : bit (t.suspect.getD false) = ifSet (decide (t.suspect = some true)) 1 := by
          rcases t.suspect with _ | _ | _ <;> rfl
        have := bit_le (t.suspect.getD false)
        have := bit_le t.summary
        refine (Nat.mod_eq_of_lt (by omega) : byteAt bs 2 = bit (t.suspect.getD false) + 2 * bit t.summary).trans ?_
        rw [suspect, mul_bit]
      · rintro _ rfl low high
        exact t.temp_bytes own low high
      · refine (t.byteAt_bytes_of_lt own (i := 6) rfl rfl t.presence_lt).trans ?_
        simp only [DischargeTicket.presence, mul_bit]
        rfl
      · refine (t.byteAt_bytes_of_lt own (i := 7) rfl rfl t.verdict.code.isLt).trans ?_
        cases t.verdict <;> rfl
      · intro x listed
        have code : x.2 = x.1.code - 1 := by
          revert x
          decide
        rw [code]
        exact t.reasons_bytes own x.1
      · refine (t.byteAt_bytes_of_lt own (i := 9) rfl rfl ((InfoFlags.code_lt _).trans (by decide))).trans ?_
        cases t.flags with
        | none => rfl
        | some x =>
          simp only [InfoFlags.code, Option.getD_some, mul_bit]
          rfl
      · refine (t.byteAt_bytes_of_lt own (i := 13) rfl rfl (t.gasField_lt fun g => g.cause.code.isLt)).trans ?_
        unfold DischargeTicket.gasField
        cases t.gassing with
        | none => rfl
        | some g =>
          dsimp only
          cases g.cause <;> rfl
      · have small : t.crimpField (bit ·.qualified) < 256 := t.crimpField_lt fun x => (bit_le _).trans_lt (by decide)
        exact t.byteAt_bytes_of_lt own (i := 19) rfl rfl small
  · rw [fieldAt_bytesOf, Nat.mod_eq_of_lt small]

end Sys2Proof.Proofs
end

section
/-! SUPPORT. The operating modes: every entry to a mode meets the invariants of R144, and what leaves the mode and binds
no can keeps STANDBY empty and the line stop asserted exactly in HALT. -/

namespace Sys2Proof.Machine

/-- What mode control holds: the mode, the HALT cause and the line stop. -/
abbrev State.modeControl (s : State) : Mode × HaltCause × Bool := (s.mode, s.haltCause, s.lineStop)

/-- The invariants of the operating modes together (R144, R153). -/
structure State.ModesFit (s : State) : Prop where
  standby : s.StandbyEmpty
  halt : s.HaltFits

/-! ## The entries to the modes -/

theorem State.enterRun_modesFit (s : State) : s.enterRun.ModesFit := ⟨nofun, rfl, by simp⟩

/-- DRAIN is entered before its drain check (R148, R149). -/
theorem State.draining_modesFit (s : State) :
    State.ModesFit { s with mode := .drain, haltCause := .none, lineStop := false } := ⟨nofun, rfl, by simp⟩

/-- HALT is entered with a cause (R147). -/
theorem State.enterHalt_modesFit {cause : HaltCause} (given : cause ≠ .none) (s : State) :
    (s.enterHalt cause).ModesFit := by
  constructor <;> simp [State.HaltFits, given]

/-- STANDBY is entered with no can in a head (R145, R149). -/
theorem State.enterStandby_modesFit {s : State} (empty : ∀ h : HeadNo, (s.head h).ctx = none) :
    s.enterStandby.ModesFit := by
  constructor <;> simp [State.HaltFits, empty]

theorem State.resetPart_modesFit (pins : BitVec 5) (s : State) : (s.resetPart pins).ModesFit := by
  refine ⟨fun _ h => ?_, rfl, iff_of_true rfl nofun⟩
  rw [State.resetPart_head]
  rfl

theorem trackerHaltCause_ne_none (request : TrackerCause) : trackerHaltCause request ≠ .none := by
  cases request <;> decide

/-! ## What leaves the mode -/

/-- What binds no can leaves an empty head empty. -/
theorem State.Sheds.empty {s t : State} (shed : s.Sheds t) {h : HeadNo} (free : (s.head h).ctx = none) :
    (t.head h).ctx = none := by
  by_contra held
  obtain ⟨c, held⟩ := Option.ne_none_iff_exists'.1 held
  obtain ⟨d, old, -⟩ := Head.mem_serial.1 (shed.serials h c.serial (Head.mem_serial.2 ⟨c, held, rfl⟩))
  exact absurd old (by simp [free])

theorem State.discharged_modeControl (h : HeadNo) (c : Context) (s : State) :
    (s.discharged h c).modeControl = s.modeControl := by
  obtain ⟨mode, haltCause, lineStop, -⟩ := s.discharged_keeps h c
  rw [State.modeControl, mode, haltCause, lineStop]

theorem State.promoteAtPitch_modeControl (s : State) : s.promoteAtPitch.modeControl = s.modeControl := by
  unfold State.promoteAtPitch
  split
  · simp
  · rfl

theorem State.offerReply_modeControl (r : Reply) (s : State) : (s.offerReply r).modeControl = s.modeControl := by
  obtain ⟨g, p, frame⟩ := s.offerReply_frame r
  rw [frame]

theorem State.offerRelay_modeControl (f : List Byte) (s : State) : (s.offerRelay f).modeControl = s.modeControl := by
  obtain ⟨g, p, frame⟩ := s.offerRelay_frame f
  rw [frame]

theorem State.endSending_modeControl (s : State) : s.endSending.modeControl = s.modeControl := by
  obtain ⟨r, frame⟩ := State.arbitrate_frame { s with ring := { s.ring with transmitter := none } }
  rw [State.endSending, frame]

theorem State.takeTicket_modeControl (flags : Byte) (payload : List Byte) (s : State) :
    (s.takeTicket flags payload).modeControl = s.modeControl := by
  unfold State.takeTicket State.acceptTicket
  (repeat' split) <;> rfl

theorem State.enterLow_modeControl (s : State) : s.enterLow.modeControl = s.modeControl := by
  obtain ⟨hs, frame⟩ := s.enterLow_frame
  rw [frame]

/-- A request leaves the mode, but for MODE and RESTART (R145, R152). -/
theorem dealRequest_modeControl {r : Request} (mode : ∀ x, r ≠ .mode x) (restart : r ≠ .restart) (pins : BitVec 5)
    (s : State) : (dealRequest pins r s).state.modeControl = s.modeControl := by
  cases r with
  | mode x => exact absurd rfl (mode x)
  | restart => exact absurd rfl restart
  | unknown | malformed | status | attention => rfl
  | recipeGas | recipeCam | recipeDrop | recipeClear =>
    simp only [dealRequest, dealRecipeGas, dealRecipeCam, dealRecipeDrop, dealRecipeClear]
    (repeat' split) <;> rfl
  | headWrite | headStore | protect =>
    simp only [dealRequest, dealHeadWrite, dealHeadStore, dealProtect]
    (repeat' split) <;> rfl
  | latch mask =>
    obtain ⟨hs, frame⟩ := s.latchHeads_frame mask
    rw [dealRequest, dealLatch, frame]
  | snapshot h =>
    simp only [dealRequest, dealSnapshot]
    split
    · split <;> rfl
    · rfl
  | counters scope clear =>
    obtain ⟨heads, part, frame⟩ := s.clearScope_frame scope
    simp only [dealRequest, dealCounters, frame]
    split
    · cases clear <;> rfl
    · rfl
  | configWrite v =>
    cases v <;> simp only [dealRequest, dealConfigWrite, dealADis, dealFaultLimit, dealNq, dealLevelPair,
      dealDipTolerance, dealValves, dealFlow] <;> (repeat' split) <;> rfl
  | recipeRead p source half => rw [dealRequest, dealRecipeRead_state]
  | headRead h => rw [dealRequest, dealHeadRead_state]
  | configRead group => rw [dealRequest, dealConfigRead_state]

section
variable {s : State} (fits : s.ModesFit)
include fits

theorem State.ModesFit.keeps {t : State} (same : t.modeControl = s.modeControl)
    (empty : s.mode = .standby → ∀ h : HeadNo, (s.head h).ctx = none → (t.head h).ctx = none) : t.ModesFit := by
  obtain ⟨emptied, stop, cause⟩ := fits
  simp only [Prod.mk.injEq] at same
  obtain ⟨mode, haltCause, lineStop⟩ := same
  refine ⟨fun standby h => ?_, ?_⟩
  · rw [mode] at standby
    exact empty standby h (emptied standby h)
  · rw [State.HaltFits, mode, haltCause, lineStop]
    exact ⟨stop, cause⟩

/-- What leaves the mode and every head keeps the invariants. -/
theorem State.ModesFit.heads {t : State} (same : t.modeControl = s.modeControl)
    (heads : ∀ h : HeadNo, t.head h = s.head h) : t.ModesFit :=
  fits.keeps same fun _ h free => heads h ▸ free

/-- What leaves the mode and binds no can keeps the invariants. -/
theorem State.ModesFit.sheds {t : State} (shed : s.Sheds t) (same : t.modeControl = s.modeControl) : t.ModesFit :=
  fits.keeps same fun _ _ => shed.empty

theorem State.ModesFit.elapse (dt : Nat) : (s.elapse dt).ModesFit := fits.heads rfl fun _ => rfl

theorem State.ModesFit.setTracker (t : Tracker) : (s.setTracker t).ModesFit := fits.heads rfl fun _ => rfl

/-- A command taken at a head binds no can, if it keeps that head's serial. -/
theorem State.ModesFit.atHead {h : HeadNo} {f : Head → Head} (dt : Nat)
    (kept : (f (s.head h)).serial = (s.head h).serial) : ((s.elapse dt).onHead h f).ModesFit :=
  fits.sheds ((s.elapse_sheds dt).trans (State.onHead_sheds (s := s.elapse dt) kept)) rfl

/-! ## Mode control -/

theorem State.drainCheck_modesFit : s.drainCheck.ModesFit := by
  rcases s.drainCheck_cases with h | ⟨-, empty, h⟩ <;> rw [h]
  · exact fits
  · exact State.enterStandby_modesFit empty

theorem State.takeHalt_modesFit {cause : HaltCause} (given : cause ≠ .none) : (s.takeHalt cause).ModesFit := by
  rcases s.takeHalt_cases cause with ⟨h, -⟩ | ⟨h, -⟩ <;> rw [h]
  · exact fits
  · exact s.enterHalt_modesFit given

theorem State.takeMode_modesFit (target : ModeTarget) : (s.takeMode target).1.ModesFit := by
  rcases s.takeMode_cases target with h | ⟨h, -⟩ | ⟨h, -⟩ | ⟨h, -⟩ | ⟨h, -, empty⟩ <;> rw [h]
  · exact fits
  · exact s.enterRun_modesFit
  · exact State.drainCheck_modesFit s.draining_modesFit
  · exact s.enterHalt_modesFit (by decide)
  · exact State.enterStandby_modesFit empty

/-! ## The crossing -/

/-- A discharge drops the can of its head and passes to STANDBY when no head holds one any more (R91, R149). -/
theorem dischargeEvent_modesFit (h : HeadNo) : (dischargeEvent h s).ModesFit := by
  unfold dischargeEvent
  split
  · rename_i c _ _
    have dropped : (s.reportCan h c).Sheds (s.discharged h c) := State.setHead_sheds fun _ held => by cases held
    exact State.drainCheck_modesFit
      (fits.sheds ((s.reportCan_sheds h c).trans dropped) (s.discharged_modeControl h c))
  · exact fits

theorem takePhase_modesFit (h : HeadNo) (gauge : Gauge) (e : PhaseEvent) : (takePhase h gauge e s).ModesFit := by
  by_cases discharge : e = .discharge
  · subst discharge
    exact dischargeEvent_modesFit fits h
  · refine fits.sheds (takePhase_sheds h gauge e s) ?_
    obtain ⟨hd, frame⟩ := takePhase_frame h gauge e s discharge
    rw [frame]
    rfl

/-- A pitch mark binds a can in RUN alone (R27, R30 to R32). -/
theorem State.infeedPitch_modesFit (h : HeadNo) (high : Bool) : (s.infeedPitch h high).ModesFit := by
  refine fits.keeps ?_ fun standby k free => ?_
  · obtain ⟨u, hd, p, r, frame⟩ := s.infeedPitch_frame h high
    rw [frame]
    rfl
  · have stands : ¬ s.mode = .run := by simp [standby]
    suffices kept : (s.infeedPitch h high).head k = s.head k by rw [kept, free]
    by_cases idle : (s.head h).state = .idle
    · cases queue : s.infeed.queue with
      | nil =>
        rw [State.infeedPitch_empty idle queue, if_neg stands]
        split <;> rfl
      | cons t rest =>
        rw [State.infeedPitch_ticket idle queue, if_neg stands]
        split <;> exact State.emitAtOnce_head t h _ (s.leaving rest) k
    · rw [State.infeedPitch_busy idle]
      rfl

theorem State.pitchMark_modesFit (h : HeadNo) (high : Bool) : (s.pitchMark h high).ModesFit :=
  have timed : s.Sheds (s.setTracker (s.tracker.pitchMark s.now)).promoteAtPitch :=
    (s.setTracker_sheds _).trans (State.promoteAtPitch_sheds _)
  State.infeedPitch_modesFit (fits.sheds timed (State.promoteAtPitch_modeControl _)) h high

theorem deliver_modesFit (lines : Lines) (a : Arrival) : (deliver lines s a).ModesFit := by
  rcases deliver_cases lines s a with h | ⟨-, h⟩ | ⟨k, e, -, -, h⟩ <;> rw [h]
  · exact fits
  · exact State.pitchMark_modesFit fits _ _
  · exact takePhase_modesFit fits k _ e

/-- A crossing, whatever the order of its events (R11). -/
theorem crossOnto_modesFit (c : Nat) (lines : Lines) (order : List Arrival) : (crossOnto c lines order s).ModesFit :=
  deliverAll_keeps order (fun a _ before => deliver_modesFit before lines a) (fits.setTracker _)

theorem State.forwardEdge_modesFit (lines : Lines) (order : List Arrival) : (s.forwardEdge lines order).ModesFit := by
  unfold State.forwardEdge
  dsimp only
  split
  · exact fits.setTracker _
  · exact crossOnto_modesFit (fits.setTracker _) _ lines order

theorem State.indexMark_modesFit (lines : Lines) (order6143 order0 : List Arrival) :
    (s.indexMark lines order6143 order0).ModesFit := by
  unfold State.indexMark
  dsimp only
  split
  · exact fits
  · split
    · split
      · split
        · exact crossOnto_modesFit (crossOnto_modesFit fits _ lines order6143) _ lines order0
        · exact crossOnto_modesFit fits _ lines order0
      · exact fits.setTracker _
    · split
      · exact fits.setTracker _
      · exact State.takeHalt_modesFit (fits.setTracker _) (by decide)

/-! ## The ring port and the requests -/

theorem State.offerRelay_modesFit (f : List Byte) : (s.offerRelay f).ModesFit :=
  fits.sheds (s.offerRelay_sheds f) (s.offerRelay_modeControl f)

theorem State.takeBroadcast_modesFit (p : List Byte) : (s.takeBroadcast p).ModesFit := by
  unfold State.takeBroadcast
  split
  · exact State.takeMode_modesFit fits _
  · exact fits

theorem State.frameIn_modesFit (bs : List Byte) : (s.frameIn bs).ModesFit := by
  unfold State.frameIn
  split
  · unfold State.route
    dsimp only
    split
    · exact fits.heads rfl fun _ => rfl
    · split
      · exact fits.heads rfl fun _ => rfl
      · split
        · exact State.offerRelay_modesFit (State.takeBroadcast_modesFit fits _) bs
        · split
          · exact fits
          · exact State.offerRelay_modesFit fits bs
  · exact fits.heads rfl fun _ => rfl

theorem dealRequest_modesFit (pins : BitVec 5) (r : Request) : (dealRequest pins r s).state.ModesFit := by
  by_cases mode : ∃ x, r = .mode x
  · obtain ⟨x, rfl⟩ := mode
    exact State.takeMode_modesFit fits x
  by_cases restart : r = .restart
  · subst restart
    simp only [dealRequest, dealRestart]
    split
    · exact s.resetPart_modesFit pins
    · exact fits
  · exact fits.sheds (dealRequest_within pins r s).state (dealRequest_modeControl (not_exists.1 mode) restart pins s)

theorem takeRequest_modesFit (dt : Nat) (tag : Byte) (pins : BitVec 5) (r : Request) :
    (takeRequest dt tag r (dealRequest pins r) s).ModesFit := by
  unfold takeRequest
  dsimp only
  split
  · have dropped : (s.elapse dt).dropRequestInHand.ModesFit := fits.heads rfl fun _ => rfl
    have short := (dealRequest_within pins r (s.elapse dt).dropRequestInHand).data
    have dealt := dealRequest_modesFit dropped pins r
    exact dealt.sheds (State.offerReply_sheds short _) (State.offerReply_modeControl _ _)
  · exact fits.elapse dt

/-! ## Every command -/

/-- Every command completes and keeps the invariants of the modes. -/
theorem exec_modesFit (i : Instr) : ∃ t, exec i s = .next t ∧ t.ModesFit := by
  rcases brings : i.request with _ | ⟨tag, r⟩
  · have waits : ∀ dt, (s.elapse dt).ModesFit := fits.elapse
    cases i with
    | reset dt pins => exact ⟨_, rfl, State.resetPart_modesFit pins _⟩
    | forwardEdge dt lines order => exact ⟨_, rfl, State.forwardEdge_modesFit (waits dt) lines order⟩
    | reverseEdge dt => exact ⟨_, rfl, State.takeHalt_modesFit ((waits dt).setTracker _) (by decide)⟩
    | indexMark dt lines o1 o0 => exact ⟨_, rfl, State.indexMark_modesFit (waits dt) lines o1 o0⟩
    | pitchTimerSaturation dt => exact ⟨_, rfl, (waits dt).setTracker _⟩
    | canPresentEdge dt => exact ⟨_, rfl, (waits dt).heads rfl fun _ => rfl⟩
    | manifoldSample dt raw => exact ⟨_, rfl, (waits dt).heads rfl fun _ => rfl⟩
    | bellPressureSample dt h raw => exact ⟨_, rfl, fits.atHead dt (Head.bellSample_serial raw _)⟩
    | crimpForceSample dt h newtons => exact ⟨_, rfl, fits.atHead dt (Head.forceSample_serial newtons _)⟩
    | overpressureTrip dt h => exact ⟨_, rfl, fits.atHead dt (Head.endGassing_serial _ _ _)⟩
    | sealLevelReport dt h => exact ⟨_, rfl, fits.atHead dt (Head.onSealReport_serial _)⟩
    | commandTimerExpiry dt h => exact ⟨_, rfl, fits.atHead dt (Head.onCommandExpiry_serial _)⟩
    | sealCheckTimerExpiry dt h => exact ⟨_, rfl, fits.atHead dt (Head.onSealExpiry_serial _ _)⟩
    | dwellTimerExpiry dt h gauge => exact ⟨_, rfl, fits.atHead dt (Head.onDwellExpiry_serial gauge _)⟩
    | ventPulseTimerExpiry dt h => exact ⟨_, rfl, fits.atHead dt (Head.onVentExpiry_serial _ _)⟩
    | resetVentTimerExpiry dt h => exact ⟨_, rfl, fits.atHead dt (Head.onResetVentExpiry_serial _)⟩
    | lowEvent dt h => exact ⟨_, rfl, fits.atHead dt (Head.endGassing_serial _ _ _)⟩
    | headHalt dt h => exact ⟨_, rfl, fits.atHead dt (Head.onHalt_serial _ _)⟩
    | dipTimerExpiry dt =>
      simp only [exec, execDipTimerExpiry]
      split
      · exact ⟨_, rfl, (waits dt).sheds (State.enterLow_sheds _) (State.enterLow_modeControl _)⟩
      · exact ⟨_, rfl, waits dt⟩
    | trackerHaltRequest dt cause => exact ⟨_, rfl, State.takeHalt_modesFit (waits dt) (trackerHaltCause_ne_none cause)⟩
    | storeOperationTimerExpiry dt =>
      simp only [exec, execStoreOperationTimerExpiry]
      split
      · exact ⟨_, rfl, (waits dt).heads rfl fun _ => rfl⟩
      · exact ⟨_, rfl, waits dt⟩
    | ringInFrame dt bytes => exact ⟨_, rfl, State.frameIn_modesFit (waits dt) bytes⟩
    | infeedTicket dt flags payload =>
      simp only [exec, execInfeedTicket]
      split
      · have dropped : (s.elapse dt).dropTicketInHand.ModesFit := fits.heads rfl fun _ => rfl
        exact ⟨_, rfl, dropped.heads (State.takeTicket_modeControl _ _ _) (State.takeTicket_head flags payload _)⟩
      · exact ⟨_, rfl, waits dt⟩
    | transmitComplete dt =>
      simp only [exec, execTransmitComplete]
      split
      · exact ⟨_, rfl, (waits dt).sheds (State.endSending_sheds _) (State.endSending_modeControl _)⟩
      · exact ⟨_, rfl, waits dt⟩
    | _ => cases brings
  · exact ⟨_, exec_request brings s, takeRequest_modesFit fits _ tag _ r⟩

end

/-- A step keeps the invariants of the modes. -/
theorem step_modesFit {s t : State} (taken : step s = .next t) (fits : s.ModesFit) : t.ModesFit := by
  unfold step at taken
  split at taken
  · cases taken
    exact fits
  · rename_i c rest _
    have front : State.ModesFit { s with pending := rest } := fits.heads rfl fun _ => rfl
    obtain ⟨u, run, kept⟩ := exec_modesFit front c
    exact Host.Outcome.next.inj (run.symm.trans taken) ▸ kept

end Sys2Proof.Machine

namespace Sys2Proof.Proofs
open Sys2Proof.Machine

/-- Settles O53: every entry to a mode meets the invariants, a can is bound in RUN alone, and nothing else moves the
mode. -/
theorem everyStepKeepsStandbyEmptyAndTheLineStop : Obligations.EveryStepKeepsStandbyEmptyAndTheLineStop := by
  unfold Obligations.EveryStepKeepsStandbyEmptyAndTheLineStop
  intro s t empty halt taken
  obtain ⟨standby, lineStop⟩ := step_modesFit taken ⟨empty, halt⟩
  exact ⟨standby, lineStop⟩

end Sys2Proof.Proofs
end

section
/-! SUPPORT. RESTART, the data of a MODE reply, and the routing of a frame at ring-in (R145, R150, R152, R155,
R156, R160). -/

namespace Sys2Proof.Machine

/-! ## RESTART -/

/-- The source address of a part whose pins were just read, 0 where it has no own address (R156, log entry 13). -/
theorem ownAddress_getD (pins : BitVec 5) : (ownAddress pins).getD 0 = if pins.toNat = 31 then 0 else pins.toNat := by
  have own : ownAddress pins = if pins.toNat = 0 ∨ pins.toNat = 31 then none else some pins.toNat := by
    simp only [ownAddress, ← BitVec.toNat_inj]
    rfl
  rw [own]
  split <;> simp <;> omega

/-- The first reply that a part with empty queues originates goes out at once (R159). -/
theorem State.offerReply_first {s : State} (idle : s.ring.transmitter = none) (relay : s.ring.relay = [])
    (origin : s.ring.origin = []) (served : s.ring.lastServed = .origin) (x : Reply) :
    s.offerReply x = { s with ring := { s.ring with
      transmitter := some ((OriginFrame.reply x).bytes (s.ring.own.getD 0)) } } := by
  simp [State.offerReply, State.enterOrigin, State.arbitrate, State.sendOrigin, idle, relay, origin, ← served]

/-- A part just reset answers with a clear summary, and the reply goes out at once (R152). -/
theorem State.resetPart_answering (pins : BitVec 5) (s : State) (tag : Byte) :
    let own : Nat := if pins.toNat = 31 then 0 else pins.toNat
    (s.resetPart pins).answering 18 tag .done [] = { s.resetPart pins with ring := { (s.resetPart pins).ring with
      transmitter := some (frameOf 4 (BitVec.ofNat 8 own) tag [18, 0, 0]) } } := by
  intro own
  have address : (ownAddress pins).getD 0 = own := ownAddress_getD pins
  have summary : (s.resetPart pins).summary = false := by
    have flags : (s.resetPart pins).report = State.reset.report := rfl
    rw [State.summary, flags]
    decide
  rw [State.answering, summary, State.offerReply_first rfl rfl rfl rfl, ← address]
  rfl

/-! ## The MODE reply -/

/-- A MODE reply carries the mode and the HALT cause, a byte each (R161). -/
theorem State.modeData_eq (s : State) : s.modeData =
    [match s.mode with | .standby => 0 | .run => 1 | .drain => 2 | .halt => 3,
     match s.haltCause with | .none => 0 | .requested => 1 | .reverse => 2 | .encoderSlip => 3] := by
  unfold State.modeData
  cases s.mode <;> cases s.haltCause <;> rfl

/-! ## Routing -/

/-- The soundness check of an arriving frame, clause by clause (R155). -/
theorem soundFrame_iff (bs : List Byte) : soundFrame bs = true ↔
    (6 ≤ bs.length ∧ bs.length ≤ 64) ∧ byteAt bs 3 ≤ 58 ∧ bs.length = 4 + byteAt bs 3 + 2
      ∧ fieldAt bs (bs.length - 2) 2 = (crc (bs.take (bs.length - 2))).toNat := by
  have length : bs.length = byteAt bs 3 + 6 ↔ bs.length = 4 + byteAt bs 3 + 2 := by omega
  simp only [soundFrame, Bool.and_eq_true, decide_eq_true_eq, length, and_assoc]

/-- A broadcast payload names a target exactly when it is a MODE request for it (R150). -/
theorem broadcastTarget_eq_some_iff (p : List Byte) (x : ModeTarget) :
    broadcastTarget p = some x ↔ ∃ b, p = [2, b] ∧ modeTarget b.toNat = some x := by
  unfold broadcastTarget
  split
  · rename_i k b
    by_cases mode : k = 2 <;> simp [mode]
  · rename_i other
    simp only [reduceCtorEq, false_iff]
    rintro ⟨b, rfl, -⟩
    exact other 2 b rfl

/-! What the port does with a sound frame, by its kind and its address (R150, R156). -/

section Routed
variable {bs : List Byte} {s : State}

theorem State.route_ticket (own : s.ring.own = some (byteAt bs 1)) (kind : byteAt bs 0 = 1) :
    s.route bs = { s with ticketsInHand := s.ticketsInHand ++ [(bs.getD 2 0, framePayload bs)] } := by
  simp [State.route, own, kind]

theorem State.route_request (own : s.ring.own = some (byteAt bs 1)) (kind : byteAt bs 0 = 3) :
    s.route bs = { s with requestsInHand := s.requestsInHand ++ [(bs.getD 2 0, requestOf (framePayload bs))] } := by
  simp [State.route, own, kind]

/-- A frame of the part's own that came round is removed. -/
theorem State.route_returned (own : s.ring.own = some (byteAt bs 1))
    (kind : byteAt bs 0 = 2 ∨ byteAt bs 0 = 4) : s.route bs = s := by
  rcases kind with kind | kind <;> simp [State.route, own, kind]

theorem State.route_broadcast (own : s.ring.own ≠ some 31) (address : byteAt bs 1 = 31) (kind : byteAt bs 0 = 3) :
    s.route bs = (s.takeBroadcast (framePayload bs)).offerRelay bs := by
  simp [State.route, own, address, kind]

/-- Every other frame is relayed: one of another part, but for a broadcast request, and an own one of no kind. -/
theorem State.route_relayed
    (other : s.ring.own ≠ some (byteAt bs 1) ∧ ¬ (byteAt bs 1 = 31 ∧ byteAt bs 0 = 3) ∨ byteAt bs 0 ∉ [1, 2, 3, 4]) :
    s.route bs = s.offerRelay bs := by
  rcases other with ⟨foreign, directed⟩ | kind
  · have directed : ¬ (byteAt bs 0 = 3 ∧ byteAt bs 1 = 31) := fun h => directed h.symm
    simp [State.route, foreign, directed]
  · simp only [List.mem_cons, List.not_mem_nil, or_false, not_or] at kind
    simp [State.route, kind]

end Routed

end Sys2Proof.Machine

namespace Sys2Proof.Proofs
open Sys2Proof.Machine

/-- Settles O5: what is in hand does not outlast the reset, whose part has empty queues to send its reply from. -/
theorem restartIsAResetAnsweredDone : Obligations.RestartIsAResetAnsweredDone := by
  unfold Obligations.RestartIsAResetAnsweredDone
  intro dt tag pins s admits own
  refine ⟨fun standby => ⟨_, rfl, ?_⟩, fun apart => exec_reads rfl rfl admits (if_neg apart)⟩
  have dealt : dealRequest pins .restart (s.taking dt) = ⟨(s.elapse dt).resetPart pins, .done, []⟩ := if_pos standby
  refine (exec_answers (i := .restart dt ⟨tag, pins⟩) rfl rfl admits dealt).trans ?_
  exact congrArg Host.Outcome.next (State.resetPart_answering pins _ tag)

/-- Settles O38: each cell of the table, which the taking of the request leaves as it was. -/
theorem modeRequestsFollowTheTable : Obligations.ModeRequestsFollowTheTable := by
  unfold Obligations.ModeRequestsFollowTheTable
  intro dt tag s modeAndCause gives
  have given : ∀ {i : Instr} {x : ModeTarget} {f : State → State} {r : Result}, i.request = some (tag, .mode x) →
      i.elapsed = dt → (∀ u : State, u.mode = s.mode → u.noContext = s.noContext → u.takeMode x = (f u, r)) →
      gives i x f r := by
    intro i x f r brings elapsed table
    have dealt : dealRequest i.pinsRead (.mode x) (s.taking i.elapsed)
        = ⟨f (s.taking dt), r, (f (s.taking dt)).modeData⟩ := by
      simp only [elapsed, dealRequest, dealMode, table (s.taking dt) rfl rfl]
    rw [State.modeData_eq] at dealt
    exact ⟨table s rfl rfl, fun admits => exec_answers brings rfl admits dealt⟩
  have cell : ∀ {i : Instr} {x : ModeTarget} {f : State → State} {r : Result} {m : Mode},
      i.request = some (tag, .mode x) → i.elapsed = dt → s.mode = m →
      (∀ u : State, u.mode = m → u.takeMode x = (f u, r)) → gives i x f r :=
    fun brings elapsed mode table => given brings elapsed fun u same _ => table u (same.trans mode)
  refine ⟨fun mode => ⟨?_, ?_, ?_, ?_, ?_⟩, fun mode => ⟨?_, ?_, ?_, ?_, ?_⟩, fun mode => ⟨?_, ?_, ?_, ?_, ?_⟩,
    fun mode => ⟨?_, ?_, ?_, ?_, fun empty => ?freeHeads, fun ⟨h, held⟩ => ?heldCan⟩⟩
  case freeHeads =>
    refine given rfl rfl fun u same noContext => ?_
    have free : u.noContext = true := noContext.trans (s.noContext_iff.2 empty)
    simp only [State.takeMode, same, mode, free, if_true]
  case heldCan =>
    refine given rfl rfl fun u same noContext => ?_
    have holds : ¬ u.noContext = true := fun free => by
      simp [s.noContext_iff.1 (noContext.symm.trans free) h] at held
    simp only [State.takeMode, same, mode, if_neg holds, id]
  all_goals
    refine cell rfl rfl mode fun u stands => ?_
    simp only [State.takeMode, stands, id]

/-- Settles O40: the soundness check first, then the kinds and addresses in turn. -/
theorem ringInFrameIsCheckedAndRouted : Obligations.RingInFrameIsCheckedAndRouted := by
  unfold Obligations.RingInFrameIsCheckedAndRouted
  intro dt bs s own31 sound kind own payload u gives
  have checked : ∀ {t : State}, sound → u.route bs = t → gives t := fun good routed =>
    congrArg Host.Outcome.next ((if_pos ((soundFrame_iff bs).2 good)).trans routed)
  refine ⟨fun bad => congrArg Host.Outcome.next (if_neg fun good => bad ((soundFrame_iff bs).1 good)),
    fun good own kind => checked good (State.route_ticket own kind),
    fun good own kind => checked good (State.route_request own kind),
    fun good own kind => checked good (State.route_returned own kind),
    fun good address kind => ⟨fun x names => checked good ?_, fun refused => checked good ?_⟩,
    fun good foreign directed => checked good (State.route_relayed (.inl ⟨foreign, directed⟩)),
    fun good _ kind => checked good (State.route_relayed (.inr kind))⟩
  · have routed : u.route bs = (u.takeBroadcast payload).offerRelay bs := State.route_broadcast own31 address kind
    rw [routed, State.takeBroadcast, (broadcastTarget_eq_some_iff payload x).2 names]
  · have routed : u.route bs = (u.takeBroadcast payload).offerRelay bs := State.route_broadcast own31 address kind
    have unnamed : broadcastTarget payload = none := by
      refine Option.eq_none_iff_forall_ne_some.2 fun x named => ?_
      obtain ⟨b, spelt, target⟩ := (broadcastTarget_eq_some_iff payload x).1 named
      simp [refused b spelt] at target
    rw [routed, State.takeBroadcast, unnamed]

end Sys2Proof.Proofs
end

section
/-! SUPPORT. What a request payload spells: the length and the arguments by its kind, and the command it stands for
(R161, R162). -/

namespace Sys2Proof.Machine

/-! ## The checks of a payload -/

/-- The request kinds are 1 to 18 (R161). -/
theorem requestLength_undefined {n : Nat} (undefined : n = 0 ∨ 18 < n) (p : List Byte) : requestLength p n = none := by
  rcases undefined with rfl | above
  · rfl
  · obtain ⟨m, rfl⟩ := Nat.exists_eq_add_of_le' above
    rfl

/-- The MODE targets are 1 to 5 (R161). -/
theorem modeTarget_undefined {n : Nat} (undefined : n = 0 ∨ 5 < n) : modeTarget n = none := by
  rcases undefined with rfl | above
  · rfl
  · obtain ⟨m, rfl⟩ := Nat.exists_eq_add_of_le' above
    rfl

section Payload
variable {k : Byte} {rest : List Byte}

theorem requestOf_undefined (undefined : requestLength (k :: rest) k.toNat = none) :
    requestOf (k :: rest) = .unknown k := by
  simp only [requestOf, undefined]

theorem requestOf_wrongLength {n : Option Nat} (defined : requestLength (k :: rest) k.toNat = some n)
    (wrong : n ≠ some (rest.length + 1)) : requestOf (k :: rest) = .malformed k := by
  simp only [requestOf, defined, List.length_cons, if_neg wrong]

theorem requestOf_rightLength {n : Nat} (defined : requestLength (k :: rest) k.toNat = some (some n))
    (right : rest.length + 1 = n) : requestOf (k :: rest) = requestArguments (k :: rest) k.toNat := by
  simp only [requestOf, defined, List.length_cons, right, if_true]

end Payload

/-- A MODE request with an undefined target is malformed (R145). -/
theorem requestOf_mode_undefined {b : Byte} (undefined : modeTarget b.toNat = none) :
    requestOf [2, b] = .malformed 2 := by
  have target : byteAt [2, b] 1 = b.toNat := rfl
  rw [requestOf_rightLength (n := 2) rfl rfl]
  simp only [requestArguments, target, undefined]
  rfl

/-! ## The layouts after their first two bytes -/

/-- A field past the first two bytes of a payload. -/
theorem fieldAt_past_two (a b : Byte) (v : List Byte) (off k : Nat) :
    fieldAt (a :: b :: v) (2 + off) k = fieldAt v off k :=
  fieldAt_congr fun i _ => by
    rw [Nat.add_assoc, Nat.add_comm 2]
    rfl

/-- A table of pairs of fields, as CONFIG-WRITE carries it from its third byte on (R161). -/
theorem ofFn_pairs_past_two {α : Type} {n : Nat} (make : Nat → Nat → α) (a b : Byte) (v : List Byte) :
    (Vector.ofFn fun k : Fin n =>
        make (fieldAt (a :: b :: v) (2 + 4 * k.val) 2) (fieldAt (a :: b :: v) (4 + 4 * k.val) 2))
      = Vector.ofFn fun k : Fin n => make (fieldAt v (4 * k.val) 2) (fieldAt v (4 * k.val + 2) 2) := by
  refine congrArg Vector.ofFn (funext fun k => ?_)
  have second : 4 + 4 * k.val = 2 + (4 * k.val + 2) := by omega
  rw [second, fieldAt_past_two, fieldAt_past_two]

theorem requestOf_headWrite {v : List Byte} (length : v.length = 6) (a b : Byte) : requestOf (8 :: a :: b :: v)
    = .headWrite a.toNat (b.toNat.testBit 0) (headFieldsAt (8 :: a :: b :: v) 3) :=
  requestOf_rightLength (n := 9) rfl (by simp [length])

theorem requestOf_recipeGas {v : List Byte} (length : v.length = 27) (a : Byte) :
    requestOf (3 :: a :: v) = .recipeGas a.toNat (gasHalfAt (3 :: a :: v) 2) :=
  requestOf_rightLength (n := 29) rfl (by simp [length])

theorem requestOf_recipeCam {v : List Byte} (length : v.length = 27) (a : Byte) :
    requestOf (4 :: a :: v) = .recipeCam a.toNat (camHalfAt (4 :: a :: v) 2) :=
  requestOf_rightLength (n := 29) rfl (by simp [length])

theorem requestOf_valves {v : List Byte} (length : v.length = 16) : requestOf (16 :: 6 :: v)
    = .configWrite (.valves (Vector.ofFn fun k => ⟨fieldAt v (4 * k.val) 2, fieldAt v (4 * k.val + 2) 2⟩)) := by
  rw [← ofFn_pairs_past_two ValveClass.mk 16 6 v]
  exact requestOf_rightLength (n := 18) rfl (by simp [length])

theorem requestOf_flow {v : List Byte} (length : v.length = 32) : requestOf (16 :: 7 :: v)
    = .configWrite (.flow (Vector.ofFn fun k => ⟨fieldAt v (4 * k.val) 2, fieldAt v (4 * k.val + 2) 2⟩)) := by
  rw [← ofFn_pairs_past_two FlowBand.mk 16 7 v]
  exact requestOf_rightLength (n := 34) rfl (by simp [length])

/-! ## The command that a payload stands for -/

/-- A request deals with the same part in the same way whatever the pins, unless it is a RESTART (R160). -/
theorem dealRequest_pins {r : Request} (other : r ≠ .restart) (a b : BitVec 5) : dealRequest a r = dealRequest b r := by
  cases r with
  | restart => exact absurd rfl other
  | _ => rfl

/-- A payload is dealt with as the request it spells (R162, log entry 6). -/
theorem exec_unknownRequest_spells {i : Instr} {tag : Byte} {r : Request} {p : List Byte} {pins : BitVec 5} {s : State}
    (brings : i.request = some (tag, r)) (reads : requestOf p = r) (same : r = .restart → pins = i.pinsRead) :
    exec (.unknownRequest i.elapsed tag ⟨p, pins⟩) s = exec i s := by
  have dealings : dealRequest pins r = dealRequest i.pinsRead r := by
    by_cases restart : r = .restart
    · rw [same restart]
    · exact dealRequest_pins restart _ _
  rw [exec_request brings, ← dealings]
  subst reads
  exact exec_request (i := .unknownRequest i.elapsed tag ⟨p, pins⟩) rfl s

/-! ## What is not taken -/

/-- A part without an own address takes no ticket (R156). -/
theorem exec_infeedTicket_noOwn {s : State} (own : s.ring.own = none) (dt : Nat) (f : Byte) (p : List Byte) :
    exec (.infeedTicket dt f p) s = .next (s.waiting dt) :=
  if_neg fun h => by simp [own] at h

end Sys2Proof.Machine

namespace Sys2Proof.Proofs
open Sys2Proof.Machine

/-- Settles O44: the checks by the kind and the length, and each layout by reading its payload. -/
theorem requestPayloadsAreReadAndChecked : Obligations.RequestPayloadsAreReadAndChecked := by
  unfold Obligations.RequestPayloadsAreReadAndChecked
  intro dt tag pins s brings spells modeAndCause
  have modeData : (s.taking dt).modeData = modeAndCause := (s.taking dt).modeData_eq
  have refused : ∀ {p r data kind q}, requestOf p = q → requestKind q = kind →
      dealRequest pins q (s.taking dt) = unchanged (s.taking dt) r data → brings p r data kind := by
    rintro p r data kind _ rfl echoed dealt admits
    exact exec_reads (i := .unknownRequest dt tag ⟨p, pins⟩) rfl echoed admits dealt
  have spelt : ∀ {p i r}, i.request = some (tag, r) → i.elapsed = dt → requestOf p = r → r ≠ .restart → spells p i := by
    rintro p i r stands rfl reads other
    exact exec_unknownRequest_spells stands reads fun restart => absurd restart other
  refine ⟨fun own i takes => ?_, fun i q x asks first other => ?_, refused rfl rfl rfl, fun k rest undefined => ?_,
    fun k rest n defined wrong => ?_, fun b undefined => ?_, ?_, fun a b c d e => ?_, fun a b v => ?_⟩
  · rcases takes with asks | ⟨dt, f, p, rfl⟩
    · obtain ⟨⟨tag, r⟩, asks⟩ := Option.isSome_iff_exists.1 asks
      rw [exec_request asks, takeRequest_noOwn own]
    · exact exec_infeedTicket_noOwn own dt f p
  · rw [exec_request asks, takeRequest_outOfTurn first other]
  · have undefined : k.toNat = 0 ∨ 18 < k.toNat := undefined.imp_left (congrArg BitVec.toNat)
    exact refused (requestOf_undefined (requestLength_undefined undefined _)) rfl rfl
  · refine refused (requestOf_wrongLength defined wrong) rfl ?_
    rw [← modeData]
    rfl
  · have undefined : b.toNat = 0 ∨ 5 < b.toNat := undefined.imp_left (congrArg BitVec.toNat)
    refine refused (requestOf_mode_undefined (modeTarget_undefined undefined)) rfl ?_
    rw [← modeData]
    rfl
  · exact ⟨spelt rfl rfl rfl nofun, spelt rfl rfl rfl nofun, spelt rfl rfl rfl nofun, spelt rfl rfl rfl nofun,
      spelt rfl rfl rfl nofun, spelt rfl rfl rfl nofun,
      exec_unknownRequest_spells (i := .restart dt ⟨tag, pins⟩) rfl rfl fun _ => rfl⟩
  · intro two
    refine ⟨spelt rfl rfl rfl nofun, spelt rfl rfl rfl nofun, spelt rfl rfl rfl nofun, spelt rfl rfl rfl nofun,
      spelt rfl rfl rfl nofun, spelt rfl rfl rfl nofun, spelt rfl rfl rfl nofun, spelt rfl rfl rfl nofun, ?_,
      spelt rfl rfl rfl nofun, spelt rfl rfl rfl nofun, spelt rfl rfl rfl nofun, spelt rfl rfl rfl nofun,
      spelt rfl rfl rfl nofun, spelt rfl rfl rfl nofun, spelt rfl rfl rfl nofun⟩
    have reads : requestOf [14, a, b] = .counters a.toNat (b.toNat.testBit 0) := rfl
    cases clears : b.toNat.testBit 0 with
    | false => exact spelt rfl rfl (clears ▸ reads) nofun
    | true => exact spelt rfl rfl (clears ▸ reads) nofun
  · exact ⟨fun length => spelt rfl rfl (requestOf_headWrite length a b) nofun,
      fun length => spelt rfl rfl (requestOf_valves length) nofun,
      fun length => spelt rfl rfl (requestOf_flow length) nofun,
      fun length => spelt rfl rfl (requestOf_recipeGas length a) nofun,
      fun length => spelt rfl rfl (requestOf_recipeCam length a) nofun⟩

end Sys2Proof.Proofs
end

section
/-! SUPPORT. The choice of the transmit arbiter, and what becomes of a frame offered to a busy transmitter and to an idle
one (R157, R158, R159). -/

namespace Sys2Proof.Machine

/-! ## The choice of the arbiter -/

/-- A frame being sent is not cut short (R159). -/
theorem State.arbitrate_busy {s : State} (busy : s.ring.transmitter.isSome = true) : s.arbitrate = s := if_pos busy

section Idle
variable {s : State} (idle : s.ring.transmitter = none)
include idle

theorem State.arbitrate_nothingWaits (relay : s.ring.relay = []) (origin : s.ring.origin = []) : s.arbitrate = s := by
  simp [State.arbitrate, idle, relay, origin]

/-- The relay queue is served alone, and in its turn (R159). -/
theorem State.arbitrate_relay {f : List Byte} {fs : List (List Byte)} (relay : s.ring.relay = f :: fs)
    (turn : s.ring.origin = [] ∨ s.ring.lastServed = .origin) : s.arbitrate = s.sendRelay f fs := by
  rcases turn with alone | served
  · simp [State.arbitrate, idle, relay, alone]
  · cases origin : s.ring.origin <;> simp [State.arbitrate, idle, relay, origin, served]

/-- The origin queue is served alone, and in its turn (R159). -/
theorem State.arbitrate_origin {g : OriginFrame} {gs : List OriginFrame} (origin : s.ring.origin = g :: gs)
    (turn : s.ring.relay = [] ∨ s.ring.lastServed = .relay) : s.arbitrate = s.sendOrigin g gs := by
  rcases turn with alone | served
  · simp [State.arbitrate, idle, origin, alone]
  · cases relay : s.ring.relay <;> simp [State.arbitrate, idle, relay, origin, served]

end Idle

/-! ## A frame offered while another is being sent -/

theorem State.enterOrigin_busy {s : State} (busy : s.ring.transmitter.isSome = true) (f : OriginFrame)
    (q : List OriginFrame) : s.enterOrigin f q = { s with ring := { s.ring with origin := q ++ [f] } } :=
  State.arbitrate_busy busy

theorem State.offerRelay_room {s : State} (room : s.ring.relay.length < 4) (f : List Byte) :
    s.offerRelay f = State.arbitrate { s with ring := { s.ring with relay := s.ring.relay ++ [f] } } := if_pos room

theorem State.offerReply_room {s : State} (room : s.ring.origin.length < 8) (x : Reply) :
    s.offerReply x = s.enterOrigin (.reply x) s.ring.origin := if_pos room

theorem State.offerTicket_room {s : State} (room : s.ring.origin.length < 8) (t : DischargeTicket) :
    s.offerTicket t = s.enterOrigin (.ticket t) s.ring.origin := if_pos room

theorem OriginFrame.not_isReply {q : List OriginFrame} (tickets : ∀ z, OriginFrame.reply z ∉ q) :
    ∀ f ∈ q, ¬ f.isReply = true
  | .ticket _, _ => nofun
  | .reply z, mem => absurd mem (tickets z)

/-- A ticket that finds the queue full takes the place of the oldest reply (R158). -/
theorem State.offerTicket_evicts {s : State} {before after : List OriginFrame} {y : Reply}
    (full : 8 ≤ s.ring.origin.length) (queue : s.ring.origin = before ++ .reply y :: after)
    (oldest : ∀ z, OriginFrame.reply z ∉ before) (t : DischargeTicket) :
    s.offerTicket t = s.loseReply.enterOrigin (.ticket t) (before ++ after) := by
  have reply : s.ring.origin.any OriginFrame.isReply = true := by simp [queue, OriginFrame.isReply]
  have evicted : s.ring.origin.eraseP OriginFrame.isReply = before ++ after := by
    rw [queue, List.eraseP_append_right _ (OriginFrame.not_isReply oldest), List.eraseP_cons_of_pos rfl]
  rw [State.offerTicket, if_neg (not_lt.2 full), if_pos reply, evicted]

/-- A ticket that finds a full queue without a reply is lost (R158). -/
theorem State.offerTicket_lost {s : State} (full : 8 ≤ s.ring.origin.length)
    (tickets : ∀ z, OriginFrame.reply z ∉ s.ring.origin) (t : DischargeTicket) :
    s.offerTicket t = (s.bumpPart PartCounters.bumpVerdictsLost).raise .verdictLost := by
  have noReply : ¬ s.ring.origin.any OriginFrame.isReply = true := fun reply =>
    have ⟨f, mem, isReply⟩ := List.any_eq_true.1 reply
    OriginFrame.not_isReply tickets f mem isReply
  rw [State.offerTicket, if_neg (not_lt.2 full), if_neg noReply]

/-! ## A frame offered while the transmitter is idle and nothing waits -/

section First
variable {s : State} (idle : s.ring.transmitter = none) (relay : s.ring.relay = []) (origin : s.ring.origin = [])
include idle relay origin

theorem State.offerRelay_first (f : List Byte) :
    s.offerRelay f = { s with ring := { s.ring with transmitter := some f, lastServed := .relay } } := by
  have room : s.ring.relay.length < 4 := by simp [relay]
  refine (State.offerRelay_room room f).trans ((State.arbitrate_relay (f := f) (fs := []) ?_ ?_ (.inl ?_)).trans ?_)
  · exact idle
  · simp [relay]
  · exact origin
  · simp [State.sendRelay, relay]

theorem State.enterOrigin_first {own : Nat} (address : s.ring.own = some own) {f : OriginFrame} {bs : List Byte}
    (sent : f.bytes own = bs) : s.enterOrigin f s.ring.origin =
      { s with ring := { s.ring with transmitter := some bs, lastServed := .origin } } := by
  refine (State.arbitrate_origin (g := f) (gs := []) ?_ ?_ (.inl ?_)).trans ?_
  · exact idle
  · simp [origin]
  · exact relay
  · simp [State.sendOrigin, origin, address, sent]

end First

/-- The header of a reply carries its tag (R161). -/
theorem Reply.bytes_eq (own : Nat) (x : Reply) : OriginFrame.bytes own (.reply x)
    = frameOf 4 (BitVec.ofNat 8 own) x.tag ([x.kind, x.result.code, if x.summary then 1 else 0] ++ x.data) := by
  rw [OriginFrame.bytes, Reply.payload_eq]

/-- Bit 0 of a ticket's header byte 2 is its suspect bit, bit 1 its summary (R161). -/
theorem DischargeTicket.bytes_eq (own : Nat) (t : DischargeTicket) : OriginFrame.bytes own (.ticket t)
    = frameOf 2 (BitVec.ofNat 8 own)
        (BitVec.ofNat 8 ((if t.suspect = some true then 1 else 0) + (if t.summary then 2 else 0))) t.payload := by
  have suspect : bit (t.suspect.getD false) = if t.suspect = some true then 1 else 0 := by
    rcases t.suspect with _ | _ | _ <;> rfl
  rw [OriginFrame.bytes, suspect, mul_bit]

end Sys2Proof.Machine

namespace Sys2Proof.Proofs
open Sys2Proof.Machine

/-- Settles O41: the completion makes the transmitter idle, and the arbiter chooses by what waits and whose turn it is. -/
theorem transmitCompletionServesTheNextFrame : Obligations.TransmitCompletionServesTheNextFrame := by
  unfold Obligations.TransmitCompletionServesTheNextFrame
  intro dt s r relayed originated
  refine ⟨fun idle => if_neg (Option.not_isSome_iff_eq_none.2 idle), fun busy => ?_⟩
  have ended : exec (.transmitComplete dt) s = .next (s.elapse dt).endSending := if_pos busy
  refine ended.trans (congrArg Host.Outcome.next ?_)
  split
  · rename_i relay origin
    exact State.arbitrate_nothingWaits rfl relay origin
  · rename_i relay origin
    exact State.arbitrate_relay rfl relay (.inl origin)
  · rename_i relay origin
    exact State.arbitrate_origin rfl origin (.inl relay)
  · rename_i relay origin
    split
    · rename_i served
      exact State.arbitrate_relay rfl relay (.inr served)
    · rename_i served
      exact State.arbitrate_origin rfl origin (.inr served)

/-- Settles O42: each offer while a frame is being sent by the room its queue has, and while none is by the arbiter's
choice. -/
theorem offersToTheRingQueues : Obligations.OffersToTheRingQueues := by
  unfold Obligations.OffersToTheRingQueues
  intro s f t x r part relays origins replyLost
  have room (nothing : r.origin = []) : r.origin.length < 8 := (congrArg List.length nothing).trans_lt (by decide)
  refine ⟨fun busy => ⟨fun room => ?_, fun full => if_neg (not_lt.2 full), fun room => ⟨?_, ?_⟩,
    fun full => if_neg (not_lt.2 full), fun before y after full queue oldest => ?_,
    fun full tickets => s.offerTicket_lost full tickets t⟩, fun own idle relay origin address => ⟨?_, ?_, ?_⟩⟩
  · exact (State.offerRelay_room room f).trans (State.arbitrate_busy busy)
  · exact (State.offerReply_room room x).trans (State.enterOrigin_busy busy _ _)
  · exact (State.offerTicket_room room t).trans (State.enterOrigin_busy busy _ _)
  · exact (State.offerTicket_evicts full queue oldest t).trans (State.enterOrigin_busy (s := s.loseReply) busy _ _)
  · exact State.offerRelay_first idle relay origin f
  · exact (State.offerReply_room (room origin) x).trans
      (State.enterOrigin_first idle relay origin address (x.bytes_eq own))
  · exact (State.offerTicket_room (room origin) t).trans
      (State.enterOrigin_first idle relay origin address (t.bytes_eq own))

end Sys2Proof.Proofs
end

section
/-! SUPPORT. What a LATCH captures of a head, and the requests LATCH and SNAPSHOT (R107, R161, R165, R166). -/

namespace Sys2Proof.Machine

/-! ## LATCH -/

/-- The elapsed gas command time is captured in GASSING alone, and what a head without a can lacks is absent (R165). -/
theorem State.capture_eq (h : HeadNo) (s : State) : s.capture h =
    { state := (s.head h).state
      angle := relativeAngle s.tracker.count h
      serial := (s.head h).ctx.map (·.serial)
      elapsed := match (s.head h).state, (s.head h).ctx with
        | .gassing, some c => some (match c.start with | some g => s.now - g.openedAt | none => 0)
        | _, _ => none
      reading := (s.head h).reading
      peak := match (s.head h).ctx with | some c => c.peak | none => none
      faults := (s.head h).faults } := by
  unfold State.capture
  cases (s.head h).ctx with
  | none => cases (s.head h).state <;> rfl
  | some c => cases (s.head h).state <;> rfl

theorem State.latchHeads_head (mask : BitVec 24) (s : State) (h : HeadNo) :
    (s.latchHeads mask).head h = if mask.getLsbD h.val = true ∧ (s.head h).snapshot = none then
      { s.head h with snapshot := some (s.capture h) } else s.head h :=
  s.onHeads_head _ h

/-! ## SNAPSHOT -/

theorem dealSnapshot_refused {head : Nat} (above : 23 < head) (s : State) :
    dealSnapshot head s = unchanged s .badField := by
  rw [dealSnapshot, headNo_none above]

theorem dealSnapshot_empty {h : HeadNo} {s : State} (empty : (s.head h).snapshot = none) :
    dealSnapshot h.val s = unchanged s .empty := by
  simp only [dealSnapshot, headNo_val, empty]

/-- A slot that holds a snapshot is read and emptied (R166). -/
theorem dealSnapshot_reads {h : HeadNo} {s : State} {p : Snapshot} (held : (s.head h).snapshot = some p) :
    dealSnapshot h.val s = ⟨s.setHead h { s.head h with snapshot := none }, .done, p.bytes h⟩ := by
  simp only [dealSnapshot, headNo_val, held, State.onHead]

end Sys2Proof.Machine

namespace Sys2Proof.Proofs
open Sys2Proof.Machine

/-- Settles O48: a LATCH head by head, and a SNAPSHOT by what its slot holds. -/
theorem latchAndSnapshot : Obligations.LatchAndSnapshot := by
  unfold Obligations.LatchAndSnapshot
  intro dt tag mask n s v
  refine ⟨fun admits => ⟨v.latchHeads mask, exec_answers rfl rfl admits rfl, ?_, fun h => ?_⟩,
    fun admits => ⟨fun above => exec_reads rfl rfl admits (dealSnapshot_refused above v), ?_⟩⟩
  · obtain ⟨hs, frame⟩ := v.latchHeads_frame mask
    rw [frame]
  · rw [State.latchHeads_head, State.capture_eq]
    rfl
  · rintro h rfl
    refine ⟨fun empty => exec_reads rfl rfl admits (dealSnapshot_empty (s := v) empty), ?_⟩
    intro p held ifSet
    refine (exec_answers (i := .snapshot dt tag h.val) rfl rfl admits (dealSnapshot_reads (s := v) held)).trans ?_
    refine congrArg (fun d => Host.Outcome.next (State.answering 13 tag .done d _)) ?_
    simp only [Snapshot.bytes, mul_bit]
    rfl

end Sys2Proof.Proofs
end

section
/-! SUPPORT. The requests HEAD-STORE and PROTECT, each by its checks, and the end of a store operation (R171, R172, R173). -/

namespace Sys2Proof.Machine

/-! ## HEAD-STORE -/

theorem dealHeadStore_badHead {n : Nat} (above : 23 < n) (s : State) : dealHeadStore n s = unchanged s .badField := by
  rw [dealHeadStore, headNo_none above]

/-- A HEAD-STORE of a head there is: its group's mark first, then an operation in flight, and the entry it carries (R171). -/
theorem dealHeadStore_val (h : HeadNo) (s : State) :
    dealHeadStore h.val s =
      if s.store.marks.getLsbD (protectionGroup h) then unchanged s .protect
      else if s.store.op.isSome then unchanged s .busy
      else ⟨s.startStore (.headWrite h (s.head h).entry), .started, []⟩ := by
  rw [dealHeadStore, headNo_val]

/-! ## The end of an operation -/

section Complete
variable {st : Store}

theorem Store.complete_of_headWrite {k : HeadNo} {e : HeadEntry} (writes : st.op = some (.headWrite k e)) :
    st.complete = { st with entries := st.entries.set k (some e), op := none, timer := none } := by
  rw [Store.complete, writes]

theorem Store.complete_of_markWrite {m : BitVec 4} (writes : st.op = some (.markWrite m)) :
    st.complete = { st with marks := m, op := none, timer := none } := by
  rw [Store.complete, writes]

end Complete

theorem exec_storeOperationTimerExpiry_idle {s : State} (idle : s.store.op = none) (dt : Nat) :
    exec (.storeOperationTimerExpiry dt) s = .next (s.waiting dt) :=
  if_neg (Option.not_isSome_iff_eq_none.2 idle)

theorem exec_storeOperationTimerExpiry_busy {s : State} {op : StoreOp} (busy : s.store.op = some op) (dt : Nat) :
    exec (.storeOperationTimerExpiry dt) s
      = .next (State.raise .storeDone { s.elapse dt with store := s.store.complete }) :=
  if_pos (Option.isSome_of_eq_some busy)

end Sys2Proof.Machine

namespace Sys2Proof.Proofs
open Sys2Proof.Machine

/-- Settles O50: each request by its checks in order, and the expiry by the operation it finds in flight. -/
theorem storeOperationsStartAndComplete : Obligations.StoreOperationsStartAndComplete := by
  unfold Obligations.StoreOperationsStartAndComplete
  intro dt tag n marks s u byStore started ended finished
  refine ⟨fun admits above => exec_reads rfl rfl admits (dealHeadStore_badHead above u), ?_, fun admits => ?_, ?_⟩
  · rintro h admits rfl
    have dealt := dealHeadStore_val h u
    split_ifs with marked busy
    · exact exec_reads rfl rfl admits (dealt.trans (if_pos marked))
    · exact exec_reads rfl rfl admits (dealt.trans ((if_neg marked).trans (if_pos busy)))
    · exact exec_answers rfl rfl admits (dealt.trans ((if_neg marked).trans (if_neg busy)))
  · have answers : ∀ {t : State} {result : Result}, dealProtect marks u = ⟨t, result, []⟩ →
        exec (.protect dt tag marks) s = .next (t.answering 11 tag result []) :=
      fun dealt => exec_answers rfl rfl admits dealt
    split_ifs with wrong busy
    · exact answers (if_pos wrong)
    · exact answers ((if_neg wrong).trans (if_pos busy))
    · exact answers ((if_neg wrong).trans (if_neg busy))
  · split
    · rename_i idle
      exact exec_storeOperationTimerExpiry_idle idle dt
    · rename_i writes
      rw [exec_storeOperationTimerExpiry_busy writes, Store.complete_of_headWrite writes]
      rfl
    · rename_i writes
      rw [exec_storeOperationTimerExpiry_busy writes, Store.complete_of_markWrite writes]
      rfl

end Sys2Proof.Proofs
end

section
/-! SUPPORT. What every command does to the model's clock and to the queue of waiting commands: `State.elapse`, with which it
begins, moves the clock by the command's own time, and nothing after it touches either (log entry 1). -/

namespace Sys2Proof.Machine

/-- The clock and the queue of waiting commands. -/
abbrev State.clockAndQueue (s : State) : Nat × List Instr := (s.now, s.pending)

/-- No event of a crossing touches the clock or the queue. -/
theorem State.Crosses.clockAndQueue {s t : State} (c : s.Crosses t) : t.clockAndQueue = s.clockAndQueue :=
  Prod.ext c.frame.now c.frame.pending

theorem State.resetPart_clockAndQueue (pins : BitVec 5) (s : State) :
    (s.resetPart pins).clockAndQueue = s.clockAndQueue := rfl

theorem State.setTracker_clockAndQueue (t : Tracker) (s : State) :
    (s.setTracker t).clockAndQueue = s.clockAndQueue := rfl

/-! ## Mode control and the supply -/

theorem State.enterDrain_clockAndQueue (s : State) : s.enterDrain.clockAndQueue = s.clockAndQueue :=
  (State.drainCheck_crosses _).clockAndQueue

theorem State.enterHalt_clockAndQueue (cause : HaltCause) (s : State) :
    (s.enterHalt cause).clockAndQueue = s.clockAndQueue :=
  Prod.ext (s.enterHalt_now cause) (s.enterHalt_pending cause)

theorem State.takeMode_clockAndQueue (target : ModeTarget) (s : State) :
    (s.takeMode target).1.clockAndQueue = s.clockAndQueue := by
  rcases s.takeMode_cases target with h | ⟨h, -⟩ | ⟨h, -⟩ | ⟨h, -⟩ | ⟨h, -⟩
  · simp only [h]
  · simp [h]
  · exact h ▸ s.enterDrain_clockAndQueue
  · exact h ▸ s.enterHalt_clockAndQueue .requested
  · simp [h]

theorem State.takeHalt_clockAndQueue (cause : HaltCause) (s : State) :
    (s.takeHalt cause).clockAndQueue = s.clockAndQueue := by
  rcases s.takeHalt_cases cause with ⟨h, -⟩ | ⟨h, -⟩
  · rw [h]
  · exact h ▸ s.enterHalt_clockAndQueue cause

theorem State.enterLow_clockAndQueue (s : State) : s.enterLow.clockAndQueue = s.clockAndQueue := by
  obtain ⟨hs, frame⟩ := s.enterLow_frame
  rw [frame]

/-! ## The tracker -/

theorem crossOnto_clockAndQueue (c : Nat) (lines : Lines) (order : List Arrival) (s : State) :
    (crossOnto c lines order s).clockAndQueue = s.clockAndQueue :=
  (deliverAll_crosses lines order _).clockAndQueue

theorem State.forwardEdge_clockAndQueue (lines : Lines) (order : List Arrival) (s : State) :
    (s.forwardEdge lines order).clockAndQueue = s.clockAndQueue := by
  unfold State.forwardEdge
  dsimp only
  split
  · rfl
  · exact crossOnto_clockAndQueue _ lines order _

theorem State.reverseEdge_clockAndQueue (s : State) : s.reverseEdge.clockAndQueue = s.clockAndQueue := by
  rw [State.reverseEdge, State.takeHalt_clockAndQueue, State.setTracker_clockAndQueue]

theorem State.indexMark_clockAndQueue (lines : Lines) (order6143 order0 : List Arrival) (s : State) :
    (s.indexMark lines order6143 order0).clockAndQueue = s.clockAndQueue := by
  unfold State.indexMark
  dsimp only
  split
  · rfl
  · split
    · split
      · split
        · exact (crossOnto_clockAndQueue _ lines order0 _).trans (crossOnto_clockAndQueue _ lines order6143 s)
        · exact crossOnto_clockAndQueue _ lines order0 s
      · rfl
    · split
      · rfl
      · exact State.takeHalt_clockAndQueue _ _

/-! ## The ring port and the infeed unit -/

theorem State.offerRelay_clockAndQueue (f : List Byte) (s : State) : (s.offerRelay f).clockAndQueue = s.clockAndQueue := by
  obtain ⟨r, p, frame⟩ := s.offerRelay_frame f
  rw [frame]

theorem State.endSending_clockAndQueue (s : State) : s.endSending.clockAndQueue = s.clockAndQueue :=
  (State.arbitrate_crosses _).clockAndQueue

theorem State.takeBroadcast_clockAndQueue (p : List Byte) (s : State) :
    (s.takeBroadcast p).clockAndQueue = s.clockAndQueue := by
  unfold State.takeBroadcast
  split
  · exact s.takeMode_clockAndQueue _
  · rfl

theorem State.frameIn_clockAndQueue (bs : List Byte) (s : State) : (s.frameIn bs).clockAndQueue = s.clockAndQueue := by
  unfold State.frameIn
  split
  · unfold State.route
    dsimp only
    split
    · rfl
    · split
      · rfl
      · split
        · exact (State.offerRelay_clockAndQueue bs _).trans (s.takeBroadcast_clockAndQueue _)
        · split
          · rfl
          · exact s.offerRelay_clockAndQueue bs
  · rfl

theorem State.takeTicket_clockAndQueue (flags : Byte) (payload : List Byte) (s : State) :
    (s.takeTicket flags payload).clockAndQueue = s.clockAndQueue := by
  unfold State.takeTicket State.acceptTicket
  (repeat' split) <;> rfl

/-! ## The requests -/

/-- No owning block touches the clock or the queue (R162). -/
theorem dealRequest_clockAndQueue (pins : BitVec 5) (r : Request) (s : State) :
    (dealRequest pins r s).state.clockAndQueue = s.clockAndQueue := by
  cases r with
  | unknown | malformed | status | attention => rfl
  | mode target => exact s.takeMode_clockAndQueue target
  | recipeGas | recipeCam | recipeDrop | recipeClear =>
    simp only [dealRequest, dealRecipeGas, dealRecipeCam, dealRecipeDrop, dealRecipeClear]
    (repeat' split) <;> rfl
  | recipeRead p source half => rw [dealRequest, dealRecipeRead_state]
  | headWrite | headStore | protect | snapshot =>
    simp only [dealRequest, dealHeadWrite, dealHeadStore, dealProtect, dealSnapshot]
    (repeat' split) <;> rfl
  | headRead h => rw [dealRequest, dealHeadRead_state]
  | latch mask =>
    obtain ⟨hs, frame⟩ := s.latchHeads_frame mask
    rw [dealRequest, dealLatch, frame]
  | counters scope clear =>
    simp only [dealRequest, dealCounters]
    split
    · cases clear
      · rfl
      · exact (s.clearScope_crosses scope).clockAndQueue
    · rfl
  | configWrite v =>
    cases v <;> simp only [dealRequest, dealConfigWrite, dealADis, dealFaultLimit, dealNq, dealLevelPair,
      dealDipTolerance, dealValves, dealFlow] <;> (repeat' split) <;> rfl
  | configRead group => rw [dealRequest, dealConfigRead_state]
  | restart =>
    simp only [dealRequest, dealRestart]
    split
    · exact s.resetPart_clockAndQueue pins
    · rfl

/-- A request moves the clock by the command's own time, whether its turn has come or not (R162, log entry 6). -/
theorem takeRequest_clockAndQueue (dt : Nat) (tag : Byte) (pins : BitVec 5) (r : Request) (s : State) :
    (takeRequest dt tag r (dealRequest pins r) s).clockAndQueue = (s.elapse dt).clockAndQueue := by
  unfold takeRequest
  dsimp only
  split
  · exact (State.offerReply_crosses _ _).clockAndQueue.trans (dealRequest_clockAndQueue pins r _)
  · rfl

/-! ## Every command -/

/-- A command that brings no request completes, and moves the clock by its own time. -/
theorem exec_clockAndQueue_of_no_request {i : Instr} (brings : i.request = none) (s : State) :
    ∃ t, exec i s = .next t ∧ t.clockAndQueue = (s.elapse i.elapsed).clockAndQueue := by
  cases i with
  | reset dt pins => exact ⟨_, rfl, State.resetPart_clockAndQueue pins _⟩
  | forwardEdge dt lines order => exact ⟨_, rfl, State.forwardEdge_clockAndQueue lines order _⟩
  | reverseEdge dt => exact ⟨_, rfl, State.reverseEdge_clockAndQueue _⟩
  | indexMark dt lines o1 o0 => exact ⟨_, rfl, State.indexMark_clockAndQueue lines o1 o0 _⟩
  | trackerHaltRequest dt cause => exact ⟨_, rfl, State.takeHalt_clockAndQueue _ _⟩
  | ringInFrame dt bytes => exact ⟨_, rfl, State.frameIn_clockAndQueue bytes _⟩
  | dipTimerExpiry dt =>
    simp only [exec, execDipTimerExpiry]
    split
    · exact ⟨_, rfl, State.enterLow_clockAndQueue _⟩
    · exact ⟨_, rfl, rfl⟩
  | storeOperationTimerExpiry dt =>
    simp only [exec, execStoreOperationTimerExpiry]
    split <;> exact ⟨_, rfl, rfl⟩
  | infeedTicket dt flags payload =>
    simp only [exec, execInfeedTicket]
    split
    · exact ⟨_, rfl, State.takeTicket_clockAndQueue flags payload _⟩
    · exact ⟨_, rfl, rfl⟩
  | transmitComplete dt =>
    simp only [exec, execTransmitComplete]
    split
    · exact ⟨_, rfl, State.endSending_clockAndQueue _⟩
    · exact ⟨_, rfl, rfl⟩
  | pitchTimerSaturation | canPresentEdge | manifoldSample => exact ⟨_, rfl, rfl⟩
  | bellPressureSample | crimpForceSample | overpressureTrip | sealLevelReport | commandTimerExpiry | sealCheckTimerExpiry
    | dwellTimerExpiry | ventPulseTimerExpiry | resetVentTimerExpiry | lowEvent | headHalt => exact ⟨_, rfl, rfl⟩
  | _ => cases brings

/-- Every command completes, and moves the clock by its own time. -/
theorem exec_clockAndQueue (i : Instr) (s : State) :
    ∃ t, exec i s = .next t ∧ t.clockAndQueue = (s.elapse i.elapsed).clockAndQueue := by
  rcases brings : i.request with _ | ⟨tag, r⟩
  · exact exec_clockAndQueue_of_no_request brings s
  · exact ⟨_, exec_request brings s, takeRequest_clockAndQueue _ tag _ r s⟩

/-! ## The step -/

theorem step_of_pending_cons {s : State} {c : Instr} {rest : List Instr} (front : s.pending = c :: rest) :
    step s = exec c { s with pending := rest } := by
  rw [step, front]

theorem step_of_pending_nil {s : State} (empty : s.pending = []) : step s = .next s := by
  rw [step, empty]

end Sys2Proof.Machine

namespace Sys2Proof.Proofs
open Sys2Proof.Machine

/-- Settles O2: every command is answered, and after `State.elapse` none touches the clock or the queue. -/
theorem everyCommandCompletes : Obligations.EveryCommandCompletes := by
  unfold Obligations.EveryCommandCompletes
  intro i s
  obtain ⟨t, run, kept⟩ := exec_clockAndQueue i s
  obtain ⟨now, pending⟩ := Prod.mk.inj kept
  exact ⟨t, run, pending, now⟩

/-- Settles O1: the step by its two cases, a command at the front or none. -/
theorem stepTakesTheFrontCommand : Obligations.StepTakesTheFrontCommand := by
  unfold Obligations.StepTakesTheFrontCommand
  exact fun s c rest => ⟨step_of_pending_cons, step_of_pending_nil⟩

end Sys2Proof.Proofs
end
